-- ==== Sys2Proof/Word.lean ====
section
/-!
DEFINITION. The word types of the block (R7) and the (address, value) pair (R12).
Every value is an unsigned bit vector of a fixed width; no type here is signed (R7, R8).
-/

namespace Sys2Proof

/-- 8 bits: keystream bytes, both keystream cursors, opcodes (R7, R80). -/
abbrev Byte := BitVec 8

/-- 32 bits: address words, value words, host bus words (R7, R52). -/
abbrev Word := BitVec 32

/-- 64 bits: pair integers, exponents, moduli (R7). -/
abbrev Dword := BitVec 64

/-- A code (R12): an address word and a value word. -/
structure Pair where
  addr : Word
  val : Word
deriving DecidableEq, Repr

end Sys2Proof
end

