-- ==== Sys2Proof/Syntax.lean ====
section
/-!
DEFINITION. The command set (one constructor per row of spec/opcode_table.json), the register names of the
window (R51), the host's accesses and the events a block meets from outside, and the host assembler (R87, R88).
-/

namespace Sys2Proof

/-- The 15 commands of R82. No command carries an operand field (R81). -/
inductive Instr where
  | nop
  | rc4Init
  | rc4Byte
  | cb1Enc
  | cb1Dec
  | modexp
  | mcEnc
  | mcDec
  | mcActivate
  | mcDefault
  | procNew
  | procNewDefault
  | procEncrypt
  | procDecrypt
  | procAutodecrypt
deriving DecidableEq, Repr

/-- The registers of the window, by name (R51). -/
inductive Reg where
  | cmd
  | status
  | addrIn
  | valIn
  | addrOut
  | valOut
  | autoState
  | rc4KeyLen
  | rc4Data
  | rc4Cur
  | mxBaseLo
  | mxBaseHi
  | mxExpLo
  | mxExpHi
  | mxModLo
  | mxModHi
  | mxResLo
  | mxResHi
  | rc4Key (k : Byte)
  | rc4S (k : Byte)
deriving DecidableEq, Repr

/-- One host bus access (R10, R52): its size in bytes, its byte offset from BLOCK_BASE, and for a write the word
on the data lines. Sizes other than 4 exist so that they can be rejected (R53), whatever the data lines carry. -/
inductive Access where
  | read (size offset : Nat)
  | write (size offset : Nat) (data : Word)
deriving DecidableEq, Repr

/-- What reaches a block from outside: a host access (R60), or a reset, which loses the access that is in flight
when it is asserted (R230). -/
inductive HostEvent where
  | access (a : Access)
  | reset (inFlight : Option Access)
deriving DecidableEq, Repr

/-- What the bus answered to a host access: nothing yet, the word read, a completed write, or a bus error
(R53, R205). -/
inductive Response where
  | none
  | data (w : Word)
  | done
  | busError
deriving DecidableEq, Repr

/-- The X that `LD64` takes (R88). DESIGN CHOICE (assumption 17): R88 gives no list of them; the model takes each X that
R56 and R31 give an X_LO and an X_HI, the result MX_RES among them, where the two writes are ignored (R54). -/
inductive Operand64 where
  | mxBase
  | mxExp
  | mxMod
  | mxRes
deriving DecidableEq, Repr

/-- A line of a host program (R87) or a pseudo-instruction (R88), as abstract syntax. -/
inductive HostLine where
  | wr (offset : Nat) (value : Word)
  | wrReg (r : Reg) (value : Word)
  | rd (offset : Nat)
  | rdReg (r : Reg)
  | cmd (i : Instr)
  | ldpair (a v : Word)
  | enc1 (a v : Word)
  | dec1 (a v : Word)
  | autodec (a v : Word)
  | penc (a v : Word)
  | pdec (a v : Word)
  | rdpair
  | ld64 (x : Operand64) (q : Dword)
  | clrfault
deriving DecidableEq, Repr

end Sys2Proof
end

