-- ==== Sys2Proof/WellFormed.lean ====
section
/-!
DEFINITION. Which terms are well formed: every command (R81: it has no operand to get wrong), a command word whose
reserved field is clear (R80), and a host access of the one accepted size, aligned, at a mapped offset (R52, R53).
The mapped offsets are written here from R51's list of the UNMAPPED ones; the bus uses the register map itself.
-/

namespace Sys2Proof

/-- R81: a command carries no immediate, register number or mode field, so each is well formed. -/
def Instr.wellFormed : Instr → Bool
  | .nop | .rc4Init | .rc4Byte => true
  | .cb1Enc | .cb1Dec => true
  | .modexp | .mcEnc | .mcDec | .mcActivate | .mcDefault => true
  | .procNew | .procNewDefault | .procEncrypt | .procDecrypt | .procAutodecrypt => true

/-- R80: RSV, bits 31:8 of a command word, must be 0. -/
def reservedClear (w : Word) : Bool :=
  w.extractLsb' 8 24 == 0#24

def Access.size : Access → Nat
  | .read n _ => n
  | .write n _ _ => n

def Access.offset : Access → Nat
  | .read _ o => o
  | .write _ o _ => o

/-- R50: the window is 4 KiB. -/
def Access.inWindow (a : Access) : Bool :=
  a.offset < 0x1000

/-- R52: every host access is 32 bits wide. -/
def Access.wholeWord (a : Access) : Bool :=
  a.size == 4

/-- R52: at an offset that is a multiple of 4. -/
def Access.aligned (a : Access) : Bool :=
  a.offset % 4 == 0

/-- R51: the unmapped offsets are 0x01C, 0x02C, 0x050 to 0x3FC and 0xC00 to 0xFFC. -/
def Access.mapped (a : Access) : Bool :=
  !(a.offset == 0x01C || a.offset == 0x02C || (0x050 ≤ a.offset && a.offset < 0x400) || 0xC00 ≤ a.offset)

/-- An access the block accepts (R53). -/
def Access.wellFormed (a : Access) : Bool :=
  a.inWindow && a.wholeWord && a.aligned && a.mapped

end Sys2Proof
end

