-- ==== Sys2Proof/Decode.lean ====
section
/-!
DEFINITION. The command decoder, total on every 32-bit word and rejecting by name (R83, R84), and the encoder,
written from the opcode map of R82.
-/

namespace Sys2Proof

/-- Why a word is no command (R83). Either way it raises ILLEGAL_CMD; the reason is not kept (R201). -/
inductive IllegalWord where
  /-- RSV, bits 31:8, is not 0. Checked first (R206). -/
  | reservedNotZero
  /-- OPC is not in the map of R82. -/
  | unassignedOpcode (opc : Byte)
deriving DecidableEq, Repr

/-- OPC, bits 7:0 of a command word (R80). -/
def opcField (w : Word) : Byte :=
  w.extractLsb' 0 8

/-- The match of R84's decoder on OPC. -/
def decodeOpcode (opc : Byte) : Option Instr :=
  match opc with
  | 0x00#8 => some .nop
  | 0x01#8 => some .rc4Init
  | 0x02#8 => some .rc4Byte
  | 0x10#8 => some .cb1Enc
  | 0x11#8 => some .cb1Dec
  | 0x20#8 => some .modexp
  | 0x21#8 => some .mcEnc
  | 0x22#8 => some .mcDec
  | 0x23#8 => some .mcActivate
  | 0x24#8 => some .mcDefault
  | 0x30#8 => some .procNew
  | 0x31#8 => some .procNewDefault
  | 0x32#8 => some .procEncrypt
  | 0x33#8 => some .procDecrypt
  | 0x34#8 => some .procAutodecrypt
  | _ => none

/-- Decode (R84). -/
def decode (w : Word) : Except IllegalWord Instr :=
  if reservedClear w then
    match decodeOpcode (opcField w) with
    | some i => .ok i
    | none => .error (.unassignedOpcode (opcField w))
  else .error .reservedNotZero

/-- The opcode column of R82. -/
def opcodeOf : Instr → Byte
  | .nop => 0x00#8
  | .rc4Init => 0x01#8
  | .rc4Byte => 0x02#8
  | .cb1Enc => 0x10#8
  | .cb1Dec => 0x11#8
  | .modexp => 0x20#8
  | .mcEnc => 0x21#8
  | .mcDec => 0x22#8
  | .mcActivate => 0x23#8
  | .mcDefault => 0x24#8
  | .procNew => 0x30#8
  | .procNewDefault => 0x31#8
  | .procEncrypt => 0x32#8
  | .procDecrypt => 0x33#8
  | .procAutodecrypt => 0x34#8

/-- The command word of an instruction: RSV = 0 above OPC (R80). -/
def encode (i : Instr) : Word :=
  0#24 ++ opcodeOf i

/-- What the decoder reads from the low `nbits` bits of `w`, every bit above them 0. A command is one 32-bit
word (R80), whose bits the table numbers as R8 does, and no byte order is involved (R55). -/
def decodeTableWord (nbits w : Nat) : Option Instr :=
  match decode (BitVec.ofNat 32 (w % 2 ^ nbits)) with
  | .ok i => some i
  | .error _ => none

end Sys2Proof
end

