-- ==== Sys2Proof/Machine/ByteTable.lean ====
section
/-!
DEFINITION. The 256-entry byte tables of the keystream unit: rc4.S (R27) and KEY (R29). An index is a byte, so
every index is in range.
-/

namespace Sys2Proof.Machine

/-- `t[k]`. -/
def entry (t : Vector Byte 256) (k : Byte) : Byte :=
  t[k.toNat]

/-- `t[k] <- b`. -/
def setEntry (t : Vector Byte 256) (k b : Byte) : Vector Byte 256 :=
  t.set k.toNat b

/-- `swap t[a], t[b]` (R101, R102). -/
def swapEntries (t : Vector Byte 256) (a b : Byte) : Vector Byte 256 :=
  setEntry (setEntry t a (entry t b)) b (entry t a)

/-- Entry k is k, for k = 0..255: rc4.S at reset (R36) and at the start of a key schedule (R101). -/
def identityTable : Vector Byte 256 :=
  ⟨⟨(List.range 256).map (BitVec.ofNat 8)⟩, by simp⟩

end Sys2Proof.Machine
end

