-- ==== Sys2Proof/Config.lean ====
section
/-!
DEFINITION. The parameters of R6: those the spec leaves OPEN, the laws it puts on them, the opaque constants that stand
for the hardware at hand, and the named constants whose value the spec decides. No proof can see an OPEN parameter's
value; a claim proved of `hardware` holds for every choice of parameters that meets the laws.
-/

namespace Sys2Proof

/-- Which byte strings, beside the empty one, are codes of a value of SessionAux: opaque, as the type is OPEN (R6). -/
opaque Config.auxCode : List Byte → Bool

/-- SessionAux (R6, R32), whose type is OPEN: the type of all codes, for a set of codes that nothing is known of but that
it holds the empty string. DESIGN CHOICE (assumption 2): each nonempty type whose values can be written down as byte
strings is this type for some set of codes, the unit type for the set that holds `[]` alone. -/
abbrev SessionAux := {b : List Byte // (b.isEmpty || Config.auxCode b) = true}

/-- The value of SessionAux whose code is the empty string: the one value, where SessionAux is the unit type (R32). -/
def emptyAux : SessionAux :=
  ⟨[], rfl⟩

/-- The hidden session (R32): both paired exponents, their modulus, and SessionAux. -/
structure Session where
  eEnc : Dword
  eDec : Dword
  n : Dword
  aux : SessionAux
deriving DecidableEq, Repr

/-- The pairing law of R33, in exact arithmetic. -/
def Session.Paired (s : Session) : Prop :=
  ∀ m : Nat, m < s.n.toNat →
    (m ^ s.eEnc.toNat % s.n.toNat) ^ s.eDec.toNat % s.n.toNat = m ∧
    (m ^ s.eDec.toNat % s.n.toNat) ^ s.eEnc.toNat % s.n.toNat = m

namespace Config

/-- The OPEN functions and values of R6. `pre` and `post` are bijections by their type (R145). -/
structure Params where
  /-- VAL_TABLE where R124 gives no value: entries 3 to 8 and 12 to 15 (OPEN), 0 to 2 (never read). -/
  valOpen : BitVec 4 → Word
  /-- DERIVE (R149): total, and free to read the prior session, the address and the value. -/
  derive : Session → Word → Word → Session
  /-- INITIAL_SESSION (R150). -/
  initialSession : Session
  /-- PRE_s (R145). -/
  pre : Session → Dword ≃ Dword
  /-- POST_s (R145). -/
  post : Session → Dword ≃ Dword

/-- DEFAULT_SESSION (R151). -/
def Params.defaultSession (p : Params) : Session :=
  p.derive p.initialSession 0xBEEFC0DE#32 0x00000000#32

/-- The law of R33 on the parameters: INITIAL_SESSION and every DERIVE output are paired. -/
def Params.Lawful (p : Params) : Prop :=
  p.initialSession.Paired ∧ ∀ s a v, (p.derive s a v).Paired

/-- What R147 makes of one pair integer, in exact arithmetic (R141, R143): the meaning of the modular unit
that R152's hypothesis is about, written without the engine's algorithm. -/
def Params.decrypted (p : Params) (s : Session) (c : Dword) : Dword :=
  let x := (p.post s).symm c
  (p.pre s).symm (if x < s.n then BitVec.ofNat 64 (x.toNat ^ s.eDec.toNat % s.n.toNat) else x)

/-- R152: the three default-session vectors, each a ciphertext pair integer and its plaintext. -/
def Params.Conforming (p : Params) : Prop :=
  p.decrypted p.defaultSession 0xD08F3A4900078A53#64 = 0x9029BEAC0C0A9225#64 ∧
  p.decrypted p.defaultSession 0x3818DDE5E72B2B16#64 = 0x201F602400000000#64 ∧
  p.decrypted p.defaultSession 0x973E0B2AA7D4AF10#64 = 0x2096F5B8000000BE#64

/-- One choice of parameters that meets every law, so that the laws are not contradictory. It is NOT claimed to
be the hardware: its modulus is 0, so the guard passes every pair (R143), and POST exchanges the three vectors. -/
def lawfulExample : Params where
  valOpen := fun _ => 0#32
  derive := fun _ _ _ => ⟨0#64, 0#64, 0#64, emptyAux⟩
  initialSession := ⟨0#64, 0#64, 0#64, emptyAux⟩
  pre := fun _ => Equiv.refl _
  post := fun _ =>
    ((Equiv.swap 0x9029BEAC0C0A9225#64 0xD08F3A4900078A53#64).trans
      (Equiv.swap 0x201F602400000000#64 0x3818DDE5E72B2B16#64)).trans
      (Equiv.swap 0x2096F5B8000000BE#64 0x973E0B2AA7D4AF10#64)

theorem lawfulExample_lawful : lawfulExample.Lawful :=
  ⟨fun _ h => absurd h (Nat.not_lt_zero _), fun _ _ _ _ h => absurd h (Nat.not_lt_zero _)⟩

theorem lawfulExample_conforming : lawfulExample.Conforming := by
  refine ⟨?_, ?_, ?_⟩ <;> decide

/-- A choice of parameters together with the laws the spec has every model take: R33 and R152. The field
defaults only show Lean that the type is not empty; nothing can be proved of `hardware` from them. -/
structure Hardware where
  params : Params := lawfulExample
  lawful : params.Lawful := by exact lawfulExample_lawful
  conforming : params.Conforming := by exact lawfulExample_conforming
deriving Inhabited

/-- The hardware at hand: opaque, so that a claim about it holds whatever its parameters are. -/
opaque hardware : Hardware

/-- The named constants of the classification, which are parameters of R6 with a given value. -/
structure Constants where
  /-- ACT_SIG (R172). -/
  actSig : Word
  /-- ACT_MASK (R172). -/
  actMask : Word
  /-- RESERVED_MASK (R171). -/
  reservedMask : Word
  /-- CMD3_MARKER_MASK (R173). -/
  cmd3MarkerMask : Word
  /-- END_SENTINEL (R174). -/
  endSentinel : Word
deriving DecidableEq, Repr

/-- The law of R172: ACT_SIG has no bit that ACT_MASK ignores. -/
def Constants.Lawful (c : Constants) : Prop :=
  c.actSig &&& ~~~c.actMask = 0x00000000#32

/-- The values of R6, which are the hardware's. -/
def givenConstants : Constants where
  actSig := 0xBEEFC0DE#32
  actMask := 0xFFFFFFFE#32
  reservedMask := 0x0E000000#32
  cmd3MarkerMask := 0x00400000#32
  endSentinel := 0xFFFFFFFF#32

theorem givenConstants_lawful : givenConstants.Lawful := by
  unfold Constants.Lawful; decide

end Config

end Sys2Proof
end

