-- ==== Sys2Proof/Machine/Rom.lean ====
section
/-!
DEFINITION. The three constant tables of the table unit (R34, R121 to R124).
-/

namespace Sys2Proof.Machine

/-- XOR_TABLE, ADD_TABLE and VAL_TABLE, 16 words each (R34). R20 counts them as state of an instance, so they are a
field of State; nothing writes them, not even reset (R34, R36, R230). -/
structure Rom where
  xorTable : Vector Word 16
  addTable : Vector Word 16
  valTable : Vector Word 16
deriving DecidableEq, Repr

def Rom.xorAt (r : Rom) (c : BitVec 4) : Word := r.xorTable[c.toNat]

def Rom.addAt (r : Rom) (c : BitVec 4) : Word := r.addTable[c.toNat]

def Rom.valAt (r : Rom) (c : BitVec 4) : Word := r.valTable[c.toNat]

/-- XOR_TABLE (R122). -/
def xorContents : Vector Word 16 :=
  #v[0x0A0B8D9B#32, 0x0A0133F8#32, 0x0AF733EC#32, 0x0A15C574#32,
     0x0A50AC20#32, 0x0A920FB9#32, 0x0A599F0B#32, 0x0A4AA0E3#32,
     0x0A21C012#32, 0x0A906254#32, 0x0A31FD54#32, 0x0A091C0E#32,
     0x0A372B38#32, 0x0A6F266C#32, 0x0A61DD4A#32, 0x0A0DBF92#32]

/-- ADD_TABLE (R123). -/
def addContents : Vector Word 16 :=
  #v[0x00288596#32, 0x0037DD28#32, 0x003BEEF1#32, 0x000BC822#32,
     0x00BC935D#32, 0x00A139F2#32, 0x00E9BBF8#32, 0x00F57F7B#32,
     0x0090D704#32, 0x001814D4#32, 0x00C5848E#32, 0x005B83E7#32,
     0x00108CF7#32, 0x0046CE5A#32, 0x003A5BF4#32, 0x006FAFFC#32]

/-- VAL_TABLE (R124): entries 9, 10 and 11 are given, every other is a parameter. -/
def valContents (p : Config.Params) : Vector Word 16 :=
  #v[p.valOpen 0#4, p.valOpen 1#4, p.valOpen 2#4, p.valOpen 3#4,
     p.valOpen 4#4, p.valOpen 5#4, p.valOpen 6#4, p.valOpen 7#4,
     p.valOpen 8#4, 0x76CE4E18#32, 0xFE447516#32, 0xF9CD94D0#32,
     p.valOpen 12#4, p.valOpen 13#4, p.valOpen 14#4, p.valOpen 15#4]

/-- The contents every instance has (R34). -/
def romContents (p : Config.Params) : Rom where
  xorTable := xorContents
  addTable := addContents
  valTable := valContents p

end Sys2Proof.Machine
end

