-- ==== Sys2Proof/Machine/State.lean ====
section
/-!
DEFINITION. The state of one block instance (R20), the reasons a step can stop, and the state after reset (R36).
-/

namespace Sys2Proof.Machine

/-- The values STATUS.ERR takes (R201); codes 5 to 15 are never produced, so they are not named. -/
inductive ErrorCode where
  | ok
  | illegalCmd
  | badKeylen
  | rc4Uninit
  | modZero
deriving DecidableEq, Repr

/-- The three per-command flags of STATUS (R24), outputs only (R38). -/
structure CommandFlags where
  act : Bool := false
  cons : Bool := false
  unsup : Bool := false
deriving DecidableEq, Repr

/-- STATUS (R24) by its live fields. BUSY and the reserved bits are hard-wired to 0 where the register is read
(`Status.word`), so they are no field. -/
structure Status where
  err : ErrorCode
  flags : CommandFlags
  fault : Bool
deriving DecidableEq, Repr

/-- Which cipher governs the stream (R26). -/
inductive Scheme where
  | none
  | table
  | modular
deriving DecidableEq, Repr

/-- The automaton and the session it owns: st.scheme, st.plain, st.wr and st.sess (R26, R32, R170). -/
structure Automaton where
  scheme : Scheme
  plain : Bool
  wr : BitVec 2
  sess : Session
deriving DecidableEq, Repr

/-- The keystream unit: rc4.S, rc4.i, rc4.j and rc4.valid (R27). -/
structure Keystream where
  S : Vector Byte 256
  i : Byte
  j : Byte
  valid : Bool
deriving DecidableEq, Repr

/-- One instance of the block (R20). The last two fields are the model's own: `pending` is what the outside will do
to the block next, oldest first (R60), and `response` what the bus answered to the latest access (R53, R205). -/
structure State where
  addrIn : Word
  valIn : Word
  addrOut : Word
  valOut : Word
  status : Status
  st : Automaton
  rc4 : Keystream
  key : Vector Byte 256
  keyLen : BitVec 9
  rc4Data : Byte
  mxBase : Dword
  mxExp : Dword
  mxMod : Dword
  mxRes : Dword
  rom : Rom
  pending : List HostEvent
  response : Response
deriving DecidableEq, Repr

/-- Why a step stops with a fault. -/
inductive Fault where
  /-- Raised by `performAccess` and `Platform.access`: the access lies outside the window of R50, so it addresses no
  block, and the spec says nothing of it. Safe: the machine stops where the hardware would not take part. -/
  | outsideWindow (offset : Nat)
deriving DecidableEq, Repr

/-- Why a step refuses. -/
inductive Refusal where
  /-- Raised by an arm of `exec` whose instruction has no meaning yet; no arm is in that case. Safe. -/
  | notModelled (mnemonic : String)
deriving DecidableEq, Repr

/-- The reset values of R36 under given parameters, no access pending. -/
def resetState (p : Config.Params) : State where
  addrIn := 0x00000000#32
  valIn := 0x00000000#32
  addrOut := 0x00000000#32
  valOut := 0x00000000#32
  status := ⟨.ok, ⟨false, false, false⟩, false⟩
  st := ⟨.none, false, 0#2, p.initialSession⟩
  rc4 := ⟨identityTable, 0#8, 0#8, false⟩
  key := Vector.replicate 256 0x00#8
  keyLen := 0#9
  rc4Data := 0x00#8
  mxBase := 0#64
  mxExp := 0#64
  mxMod := 0#64
  mxRes := 0#64
  rom := romContents p
  pending := []
  response := .none

/-- The machine right after reset (R36). -/
def State.reset : State :=
  resetState Config.hardware.params

end Sys2Proof.Machine
end

