-- ==== Sys2Proof/Machine/Flags.lean ====
section
/-!
DEFINITION. STATUS: the value every command and every error gives it (R24, R203), the one host write to it (R54),
and the words that show the status and the small state fields to the host (R24, R25, R51).
-/

namespace Sys2Proof.Machine

/-- The ERR numbers of R201. -/
def ErrorCode.code : ErrorCode → BitVec 4
  | .ok => 0#4
  | .illegalCmd => 1#4
  | .badKeylen => 2#4
  | .rc4Uninit => 3#4
  | .modZero => 4#4

/-- STATUS after a command that completed: ERR = 0, the command's flags, FAULT kept (R24, R204). -/
def Status.succeed (st : Status) (f : CommandFlags) : Status where
  err := .ok
  flags := f
  fault := st.fault

/-- STATUS after a command that raised `e`: all three flags 0 and FAULT set (R203). -/
def Status.fail (_ : Status) (e : ErrorCode) : Status where
  err := e
  flags := ⟨false, false, false⟩
  fault := true

/-- STATUS after the host writes `w` to it: bit 31 clears FAULT, the other bits are ignored (R54). -/
def Status.hostWrite (st : Status) (w : Word) : Status :=
  if w.getLsbD 31 then { st with fault := false } else st

def bit (b : Bool) : BitVec 1 :=
  BitVec.ofBool b

/-- STATUS as the host reads it (R24): FAULT at bit 31, bits 30:8 and BUSY hard-wired to 0, then UNSUP, CONS, ACT
and ERR. -/
def Status.word (st : Status) : Word :=
  bit st.fault ++ 0#23 ++ 0#1 ++ bit st.flags.unsup ++ bit st.flags.cons ++ bit st.flags.act ++ st.err.code

/-- The SCHEME numbers of R25. -/
def Scheme.code : Scheme → BitVec 2
  | .none => 0#2
  | .table => 1#2
  | .modular => 2#2

/-- AUTO_STATE as the host reads it (R25). -/
def Automaton.word (st : Automaton) : Word :=
  0#26 ++ st.wr ++ 0#1 ++ bit st.plain ++ st.scheme.code

/-- RC4_CUR as the host reads it (R51): valid at bit 16, rc4.j, rc4.i. -/
def Keystream.cursorWord (k : Keystream) : Word :=
  0#15 ++ bit k.valid ++ k.j ++ k.i

end Sys2Proof.Machine
end

