-- ==== Sys2Proof/Machine/Operands.lean ====
section
/-!
DEFINITION. Operand forms: the operand pair (R21), the pair integer (R57), the command nibble (R11), and 64-bit
values as LO and HI words (R56). No operand is extended, scaled or shifted when it is read (R81).
-/

namespace Sys2Proof.Machine

/-- `cmd(a) = a[31:28]` (R11). -/
def commandNibble (a : Word) : BitVec 4 :=
  a.extractLsb' 28 4

/-- `{a, v}`: the address word in bits 63:32, the value word in bits 31:0 (R57). -/
def pairInteger (pr : Pair) : Dword :=
  pr.addr ++ pr.val

/-- The inverse of `pairInteger` (R57). -/
def splitInteger (q : Dword) : Pair where
  addr := q.extractLsb' 32 32
  val := q.extractLsb' 0 32

/-- X_LO = X[31:0] (R56). -/
def loWord (x : Dword) : Word :=
  x.extractLsb' 0 32

/-- X_HI = X[63:32] (R56). -/
def hiWord (x : Dword) : Word :=
  x.extractLsb' 32 32

/-- The 64-bit register after a write of its LO word (R56). -/
def setLoWord (x : Dword) (w : Word) : Dword :=
  hiWord x ++ w

/-- The 64-bit register after a write of its HI word (R56). -/
def setHiWord (x : Dword) (w : Word) : Dword :=
  w ++ loWord x

/-- The operand pair (ADDR_IN, VAL_IN) as it stands at the CMD write (R21, R60). -/
def State.pairIn (s : State) : Pair where
  addr := s.addrIn
  val := s.valIn

/-- A KEYLEN that RC4_INIT accepts: 1 to 256 (R29, R103). -/
def legalKeyLen (n : BitVec 9) : Bool :=
  1 ≤ n.toNat && n.toNat ≤ 256

end Sys2Proof.Machine
end

