-- ==== Sys2Proof/Machine/Ops.lean ====
section
/-!
DEFINITION. The named operations every command is built from. Raising an error (R203) is the block's whole
counterpart of taking an exception, and clearing FAULT (R204, R208) of returning from one: it has no other.
-/

namespace Sys2Proof.Machine

/-- The command completed with these flags (R24). -/
def State.complete (s : State) (f : CommandFlags) : State :=
  { s with status := s.status.succeed f }

/-- `raise Error(e)` (R203): STATUS takes the code, the flags go to 0, FAULT is set, nothing else changes. -/
def State.raiseError (s : State) (e : ErrorCode) : State :=
  { s with status := s.status.fail e }

/-- A host write to STATUS (R54, R204). -/
def State.writeStatus (s : State) (w : Word) : State :=
  { s with status := s.status.hostWrite w }

/-- `(x[ADDR_OUT], x[VAL_OUT]) <- pr` (R22). -/
def State.putPair (s : State) (pr : Pair) : State :=
  { s with addrOut := pr.addr, valOut := pr.val }

/-- The automaton part of the state is replaced (R26, R32). -/
def State.putAutomaton (s : State) (a : Automaton) : State :=
  { s with st := a }

/-- st.sess is replaced and the rest of the automaton kept (R155, R156). -/
def State.putSession (s : State) (e : Session) : State :=
  { s with st := { s.st with sess := e } }

/-- The keystream unit's state is replaced (R27). -/
def State.putStream (s : State) (k : Keystream) : State :=
  { s with rc4 := k }

/-- `x[RC4_DATA] <- b` (R30). -/
def State.putData (s : State) (b : Byte) : State :=
  { s with rc4Data := b }

/-- `MX_RES <- q` (R31). -/
def State.putResult (s : State) (q : Dword) : State :=
  { s with mxRes := q }

/-- The bus answers the latest access. -/
def State.respond (s : State) (r : Response) : State :=
  { s with response := r }

/-- The events still to come. -/
def State.withPending (s : State) (es : List HostEvent) : State :=
  { s with pending := es }

/-- Reset (R230): every register takes its R36 value in one step and no ROM table changes. What the host does next is
not the block's state, so it stays. -/
def State.hardReset (s : State) : State :=
  { State.reset with rom := s.rom, pending := s.pending }

/-- An activation by the pair `pr` (R149, R176, R181, R187, R188): the session is re-derived and the scheme becomes
Modular with st.plain 0. st.wr is left to the caller. -/
def activate (p : Config.Params) (pr : Pair) (st : Automaton) : Automaton :=
  { st with scheme := .modular, plain := false, sess := p.derive st.sess pr.addr pr.val }

end Sys2Proof.Machine
end

