-- ==== Sys2Proof/Machine/Keystream.lean ====
section
/-!
DEFINITION. The keystream unit (R100 to R106): the key schedule, the output step, RC4_INIT and RC4_BYTE.
-/

namespace Sys2Proof.Machine

/-- One turn of KSA's loop (R101) at loop index `i`, on (S, j). The key is used cyclically: byte `K[i mod L]`. -/
def ksaTurn (key : Vector Byte 256) (len i : Nat) (x : Vector Byte 256 × Byte) : Vector Byte 256 × Byte :=
  let k := BitVec.ofNat 8 i
  let j := x.2 + entry x.1 k + entry key (BitVec.ofNat 8 (i % len))
  (swapEntries x.1 k j, j)

/-- (S, j) after the turns 0..n-1 of KSA's loop (R101). -/
def ksaTurns (key : Vector Byte 256) (len : Nat) : Nat → Vector Byte 256 × Byte
  | 0 => (identityTable, 0#8)
  | n + 1 => ksaTurn key len n (ksaTurns key len n)

/-- KSA(K[0..len-1]) (R101). -/
def keySchedule (key : Vector Byte 256) (len : Nat) : Vector Byte 256 :=
  (ksaTurns key len 256).1

/-- The state of the unit after PRGA_STEP (R102): both cursors advanced, then the swap. -/
def prgaAdvance (k : Keystream) : Keystream :=
  let i := k.i + 1#8
  let j := k.j + entry k.S i
  { k with S := swapEntries k.S i j, i := i, j := j }

/-- The keystream byte that PRGA_STEP selects (R102), read from the state after the swap. -/
def prgaSelect (k : Keystream) : Byte :=
  entry k.S (entry k.S k.i + entry k.S k.j)

/-- PRGA_STEP(S, i, j, b) (R102): the state after it, and `out`. -/
def prgaStep (k : Keystream) (b : Byte) : Keystream × Byte :=
  let k' := prgaAdvance k
  (k', b ^^^ prgaSelect k')

/-- The unit applied to a buffer (R102): one PRGA_STEP a byte, in buffer order. -/
def prgaApply (k : Keystream) : List Byte → Keystream × List Byte
  | [] => (k, [])
  | b :: bs =>
    let (k', out) := prgaStep k b
    let (k'', outs) := prgaApply k' bs
    (k'', out :: outs)

/-- RC4_INIT (R103). -/
def execRc4Init (s : State) : Host.Outcome State Fault Refusal :=
  if legalKeyLen s.keyLen then
    .next ((s.putStream ⟨keySchedule s.key s.keyLen.toNat, 0#8, 0#8, true⟩).complete ⟨false, false, false⟩)
  else .next (s.raiseError .badKeylen)

/-- RC4_BYTE (R104). -/
def execRc4Byte (s : State) : Host.Outcome State Fault Refusal :=
  if s.rc4.valid then
    let (k, out) := prgaStep s.rc4 s.rc4Data
    .next (((s.putStream k).putData out).complete ⟨false, false, false⟩)
  else .next (s.raiseError .rc4Uninit)

end Sys2Proof.Machine
end

