-- ==== Sys2Proof/Machine/Modular.lean ====
section
/-!
DEFINITION. The exponentiation engine and the modular unit (R140 to R157). What depends on the OPEN parameters takes
them as an argument (R6); a command's meaning applies it to the hardware's own.
-/

namespace Sys2Proof.Machine

/-- `(zext_128(a) * zext_128(b)) mod m` (R141): the exact 128-bit product, reduced. -/
def mulMod (a b m : Dword) : Dword :=
  ((a.setWidth 128 * b.setWidth 128) % m.setWidth 128).setWidth 64

/-- The turns of ModExp's loop (R141) that are left: `n` of them, the next at exponent bit `k`, on (r, x). -/
def modExpTurns (e m : Dword) : (n k : Nat) → (r x : Dword) → Dword
  | 0, _, r, _ => r
  | n + 1, k, r, x =>
    modExpTurns e m n (k + 1) (if e.getLsbD k then mulMod r x m else r) (mulMod x x m)

/-- ModExp(b, e, m) (R141), least significant exponent bit first; used only with `m != 0`. -/
def modExp (b e m : Dword) : Dword :=
  modExpTurns e m 64 0 (1#64 % m) (b % m)

/-- The guarded stage G(P, e, n) (R143). -/
def guardedExp (q e n : Dword) : Dword :=
  if q < n then modExp q e n else q

/-- MCEnc (R146). -/
def mcEncrypt (p : Config.Params) (e : Session) (pr : Pair) : Pair :=
  splitInteger (p.post e (guardedExp (p.pre e (pairInteger pr)) e.eEnc e.n))

/-- MCDec (R147). -/
def mcDecrypt (p : Config.Params) (e : Session) (pr : Pair) : Pair :=
  splitInteger ((p.pre e).symm (guardedExp ((p.post e).symm (pairInteger pr)) e.eDec e.n))

/-- MODEXP (R142). -/
def execModexp (s : State) : Host.Outcome State Fault Refusal :=
  if s.mxMod == 0#64 then .next (s.raiseError .modZero)
  else .next ((s.putResult (modExp s.mxBase s.mxExp s.mxMod)).complete ⟨false, false, false⟩)

/-- What MC_ENC does to the state under given parameters (R153). -/
def mcEncCommand (p : Config.Params) (s : State) : State :=
  (s.putPair (mcEncrypt p s.st.sess s.pairIn)).complete ⟨false, false, false⟩

/-- What MC_DEC does to the state under given parameters (R154). -/
def mcDecCommand (p : Config.Params) (s : State) : State :=
  (s.putPair (mcDecrypt p s.st.sess s.pairIn)).complete ⟨false, false, false⟩

/-- What MC_ACTIVATE does to the state under given parameters (R155): no activation check, no change of scheme. -/
def mcActivateCommand (p : Config.Params) (s : State) : State :=
  (s.putSession (p.derive s.st.sess s.addrIn s.valIn)).complete ⟨true, false, false⟩

/-- What MC_DEFAULT does to the state under given parameters (R156). -/
def mcDefaultCommand (p : Config.Params) (s : State) : State :=
  (s.putSession p.defaultSession).complete ⟨false, false, false⟩

/-- MC_ENC (R153). -/
def execMcEnc (s : State) : Host.Outcome State Fault Refusal :=
  .next (mcEncCommand Config.hardware.params s)

/-- MC_DEC (R154). -/
def execMcDec (s : State) : Host.Outcome State Fault Refusal :=
  .next (mcDecCommand Config.hardware.params s)

/-- MC_ACTIVATE (R155). -/
def execMcActivate (s : State) : Host.Outcome State Fault Refusal :=
  .next (mcActivateCommand Config.hardware.params s)

/-- MC_DEFAULT (R156). -/
def execMcDefault (s : State) : Host.Outcome State Fault Refusal :=
  .next (mcDefaultCommand Config.hardware.params s)

end Sys2Proof.Machine
end

