-- ==== Sys2Proof/Machine/TableCipher.lean ====
section
/-!
DEFINITION. The table unit (R120 to R131): TableEncrypt, TableDecrypt, CB1_ENC and CB1_DEC.
-/

namespace Sys2Proof.Machine

/-- The value step applies to the command nibbles above 2 (R126, R127). -/
def valueCiphered (c : BitVec 4) : Bool :=
  2#4 < c

/-- TableEncrypt (R126). -/
def tableEncrypt (rom : Rom) (pr : Pair) : Pair :=
  let a := pr.addr
  let c := commandNibble a
  let rot := ((a &&& 0xFF#32) <<< 16) ||| ((a >>> 8) &&& 0xFFFF#32)
  let a' := ((a &&& 0xFF000000#32) ||| ((rot + rom.addAt c) &&& 0x00FFFFFF#32)) ^^^ rom.xorAt c
  ⟨a', if valueCiphered c then a' ^^^ (pr.val + rom.valAt c) else pr.val⟩

/-- TableDecrypt (R127): the command nibble comes from the input address, and the value step uses it too. -/
def tableDecrypt (rom : Rom) (pr : Pair) : Pair :=
  let a' := pr.addr
  let c := commandNibble a'
  let v := if valueCiphered c then (pr.val ^^^ a') - rom.valAt c else pr.val
  let t := a' ^^^ rom.xorAt c
  let r := (t - rom.addAt c) &&& 0x00FFFFFF#32
  ⟨(t &&& 0xFF000000#32) ||| ((r &&& 0xFFFF#32) <<< 8) ||| (r >>> 16), v⟩

/-- CB1_ENC (R128). -/
def execCb1Enc (s : State) : Host.Outcome State Fault Refusal :=
  .next ((s.putPair (tableEncrypt s.rom s.pairIn)).complete ⟨false, false, false⟩)

/-- CB1_DEC (R129). -/
def execCb1Dec (s : State) : Host.Outcome State Fault Refusal :=
  .next ((s.putPair (tableDecrypt s.rom s.pairIn)).complete ⟨false, false, false⟩)

end Sys2Proof.Machine
end

