-- ==== Sys2Proof/Machine/Automaton.lean ====
section
/-!
DEFINITION. The scheme automaton (R170 to R183): the classification tests, the clauses A to F, and the three
pair transforms of the processor as functions of a pair and the automaton's state. The parameters of R6, the named
constants among them, are arguments.
-/

namespace Sys2Proof.Machine

/-- Reserved(a) (R171). -/
def isReserved (k : Config.Constants) (a : Word) : Bool :=
  a &&& k.reservedMask != 0#32

/-- IsAct(a) (R172): the address alone decides. -/
def isAct (k : Config.Constants) (a : Word) : Bool :=
  a &&& k.actMask == k.actSig

/-- Lines(a) (R173): the words of the logical code that starts with address `a`. -/
def codeLines (k : Config.Constants) (a : Word) : Nat :=
  let c := commandNibble a
  if c == 3#4 then (if a &&& k.cmd3MarkerMask != 0#32 then 2 else 1)
  else if c == 4#4 || c == 5#4 || c == 6#4 then 2
  else 1

/-- `Lines(a) - 1`, the value st.wr takes when a code starts (R177, R178, R180). -/
def wordsLeft (k : Config.Constants) (a : Word) : BitVec 2 :=
  BitVec.ofNat 2 (codeLines k a - 1)

/-- What one pair makes of the automaton: the output pair, the state after it, the command's flags. -/
structure PairResult where
  out : Pair
  st : Automaton
  flags : CommandFlags
deriving DecidableEq, Repr

/-- Clause A (R176): a raw activation code is consumed. -/
def clauseA (p : Config.Params) (pr : Pair) (st : Automaton) : PairResult where
  out := pr
  st := { activate p pr st with wr := 1#2 }
  flags := ⟨true, true, false⟩

/-- Clause B (R177): an encrypted scheme-1 code starts; the count comes from the decrypted address. -/
def clauseB (k : Config.Constants) (rom : Rom) (pr : Pair) (st : Automaton) : PairResult :=
  let out := tableDecrypt rom pr
  ⟨out, { st with scheme := .table, plain := false, wr := wordsLeft k out.addr }, ⟨false, false, false⟩⟩

/-- Clause C (R178): a plaintext code starts. -/
def clauseC (k : Config.Constants) (pr : Pair) (st : Automaton) : PairResult where
  out := pr
  st := { st with scheme := .table, plain := true, wr := wordsLeft k pr.addr }
  flags := ⟨false, false, false⟩

/-- Clause D (R179): the next word of a scheme-1 or plaintext code. -/
def clauseD (rom : Rom) (pr : Pair) (st : Automaton) : PairResult where
  out := if st.plain then pr else tableDecrypt rom pr
  st := { st with wr := st.wr - 1#2 }
  flags := ⟨false, false, false⟩

/-- Clause E (R180): any pair in scheme Modular; the end sentinel is flagged where a code would start. -/
def clauseE (k : Config.Constants) (p : Config.Params) (pr : Pair) (st : Automaton) : PairResult :=
  let out := mcDecrypt p st.sess pr
  if st.wr == 0#2 then
    if codeLines k out.addr == 1 && out.addr == k.endSentinel then
      ⟨out, { st with wr := 0#2 }, ⟨false, false, true⟩⟩
    else ⟨out, { st with wr := wordsLeft k out.addr }, ⟨false, false, false⟩⟩
  else ⟨out, { st with wr := st.wr - 1#2 }, ⟨false, false, false⟩⟩

/-- Clause F (R181): the activation check on the output of clauses B to E. The pair stays, ACT joins the flags. -/
def clauseF (k : Config.Constants) (p : Config.Params) (r : PairResult) : PairResult :=
  if isAct k r.out.addr then
    { r with st := { activate p r.out r.st with wr := 1#2 }, flags := { r.flags with act := true } }
  else r

/-- One step of the automaton (R175, R189). -/
def autoDecrypt (k : Config.Constants) (p : Config.Params) (rom : Rom) (pr : Pair) (st : Automaton) : PairResult :=
  if st.scheme == .modular then clauseF k p (clauseE k p pr st)
  else if st.wr == 0#2 then
    if isReserved k pr.addr then
      if isAct k pr.addr then clauseA p pr st else clauseF k p (clauseB k rom pr st)
    else clauseF k p (clauseC k pr st)
  else clauseF k p (clauseD rom pr st)

/-- The pair transform of PROC_ENCRYPT (R187): the activation test reads the plaintext input, after encryption under
the scheme and session in force before it. -/
def schemeEncrypt (k : Config.Constants) (p : Config.Params) (rom : Rom) (pr : Pair) (st : Automaton) : PairResult :=
  let out := if st.scheme == .modular then mcEncrypt p st.sess pr else tableEncrypt rom pr
  if isAct k pr.addr then ⟨out, activate p pr st, ⟨true, false, false⟩⟩ else ⟨out, st, ⟨false, false, false⟩⟩

/-- The pair transform of PROC_DECRYPT (R188): the activation test reads the decrypted output. -/
def schemeDecrypt (k : Config.Constants) (p : Config.Params) (rom : Rom) (pr : Pair) (st : Automaton) : PairResult :=
  let out := if st.scheme == .modular then mcDecrypt p st.sess pr else tableDecrypt rom pr
  if isAct k out.addr then ⟨out, activate p out st, ⟨true, false, false⟩⟩ else ⟨out, st, ⟨false, false, false⟩⟩

end Sys2Proof.Machine
end

