-- ==== Sys2Proof/Machine/Processor.lean ====
section
/-!
DEFINITION. NOP and the processor commands (R184 to R189). What depends on the parameters of R6 takes them as
arguments; a command's meaning applies it to the hardware's own: the given constants and the OPEN parameters.
-/

namespace Sys2Proof.Machine

/-- The state a pair command of the processor leaves: the output pair, the automaton and the flags (R22, R24). -/
def State.finishPair (s : State) (r : PairResult) : State :=
  ((s.putPair r.out).putAutomaton r.st).complete r.flags

/-- What PROC_NEW does to the state under given parameters (R185). -/
def procNewCommand (p : Config.Params) (s : State) : State :=
  (s.putAutomaton ⟨.none, false, 0#2, p.initialSession⟩).complete ⟨false, false, false⟩

/-- What PROC_NEW_DEFAULT does to the state under given parameters (R186): st.wr is 0, not 1. -/
def procNewDefaultCommand (p : Config.Params) (s : State) : State :=
  (s.putAutomaton ⟨.modular, false, 0#2, p.defaultSession⟩).complete ⟨false, false, false⟩

/-- What PROC_ENCRYPT does to the state under given parameters (R187). -/
def procEncryptCommand (k : Config.Constants) (p : Config.Params) (s : State) : State :=
  s.finishPair (schemeEncrypt k p s.rom s.pairIn s.st)

/-- What PROC_DECRYPT does to the state under given parameters (R188). -/
def procDecryptCommand (k : Config.Constants) (p : Config.Params) (s : State) : State :=
  s.finishPair (schemeDecrypt k p s.rom s.pairIn s.st)

/-- What PROC_AUTODECRYPT does to the state under given parameters (R189). -/
def procAutodecryptCommand (k : Config.Constants) (p : Config.Params) (s : State) : State :=
  s.finishPair (autoDecrypt k p s.rom s.pairIn s.st)

/-- NOP (R184): it clears the flags of the command before it, and no more. -/
def execNop (s : State) : Host.Outcome State Fault Refusal :=
  .next (s.complete ⟨false, false, false⟩)

/-- PROC_NEW (R185). -/
def execProcNew (s : State) : Host.Outcome State Fault Refusal :=
  .next (procNewCommand Config.hardware.params s)

/-- PROC_NEW_DEFAULT (R186). -/
def execProcNewDefault (s : State) : Host.Outcome State Fault Refusal :=
  .next (procNewDefaultCommand Config.hardware.params s)

/-- PROC_ENCRYPT (R187). -/
def execProcEncrypt (s : State) : Host.Outcome State Fault Refusal :=
  .next (procEncryptCommand Config.givenConstants Config.hardware.params s)

/-- PROC_DECRYPT (R188). -/
def execProcDecrypt (s : State) : Host.Outcome State Fault Refusal :=
  .next (procDecryptCommand Config.givenConstants Config.hardware.params s)

/-- PROC_AUTODECRYPT (R189). -/
def execProcAutodecrypt (s : State) : Host.Outcome State Fault Refusal :=
  .next (procAutodecryptCommand Config.givenConstants Config.hardware.params s)

end Sys2Proof.Machine
end

