-- ==== Sys2Proof/Machine/Dispatch.lean ====
section
/-!
DEFINITION. exec: one arm per command, each one direct call of its meaning.
-/

namespace Sys2Proof.Machine

def exec (i : Instr) (s : State) : Host.Outcome State Fault Refusal :=
  match i with
  | .nop => Sys2Proof.Machine.execNop s
  | .rc4Init => Sys2Proof.Machine.execRc4Init s
  | .rc4Byte => Sys2Proof.Machine.execRc4Byte s
  | .cb1Enc => Sys2Proof.Machine.execCb1Enc s
  | .cb1Dec => Sys2Proof.Machine.execCb1Dec s
  | .modexp => Sys2Proof.Machine.execModexp s
  | .mcEnc => Sys2Proof.Machine.execMcEnc s
  | .mcDec => Sys2Proof.Machine.execMcDec s
  | .mcActivate => Sys2Proof.Machine.execMcActivate s
  | .mcDefault => Sys2Proof.Machine.execMcDefault s
  | .procNew => Sys2Proof.Machine.execProcNew s
  | .procNewDefault => Sys2Proof.Machine.execProcNewDefault s
  | .procEncrypt => Sys2Proof.Machine.execProcEncrypt s
  | .procDecrypt => Sys2Proof.Machine.execProcDecrypt s
  | .procAutodecrypt => Sys2Proof.Machine.execProcAutodecrypt s

end Sys2Proof.Machine
end

