-- ==== Sys2Proof/Machine/RegisterMap.lean ====
section
/-!
DEFINITION. The register window (R50, R51): where each register lies, what a read of it answers and what a write to it
stores (R54 to R59). The window is the block's only address space; it holds words, not bytes (R55).
-/

namespace Sys2Proof.Machine

/-- The offset of each register (R51). -/
def regOffset : Reg → Nat
  | .cmd => 0x000
  | .status => 0x004
  | .addrIn => 0x008
  | .valIn => 0x00C
  | .addrOut => 0x010
  | .valOut => 0x014
  | .autoState => 0x018
  | .rc4KeyLen => 0x020
  | .rc4Data => 0x024
  | .rc4Cur => 0x028
  | .mxBaseLo => 0x030
  | .mxBaseHi => 0x034
  | .mxExpLo => 0x038
  | .mxExpHi => 0x03C
  | .mxModLo => 0x040
  | .mxModHi => 0x044
  | .mxResLo => 0x048
  | .mxResHi => 0x04C
  | .rc4Key k => 0x400 + 4 * k.toNat
  | .rc4S k => 0x800 + 4 * k.toNat

/-- The register at a byte offset, if one is mapped there (R51). -/
def regAt (off : Nat) : Option Reg :=
  match off with
  | 0x000 => some .cmd
  | 0x004 => some .status
  | 0x008 => some .addrIn
  | 0x00C => some .valIn
  | 0x010 => some .addrOut
  | 0x014 => some .valOut
  | 0x018 => some .autoState
  | 0x020 => some .rc4KeyLen
  | 0x024 => some .rc4Data
  | 0x028 => some .rc4Cur
  | 0x030 => some .mxBaseLo
  | 0x034 => some .mxBaseHi
  | 0x038 => some .mxExpLo
  | 0x03C => some .mxExpHi
  | 0x040 => some .mxModLo
  | 0x044 => some .mxModHi
  | 0x048 => some .mxResLo
  | 0x04C => some .mxResHi
  | off =>
    if off % 4 == 0 then
      if 0x400 ≤ off && off < 0x800 then some (.rc4Key (BitVec.ofNat 8 ((off - 0x400) / 4)))
      else if 0x800 ≤ off && off < 0xC00 then some (.rc4S (BitVec.ofNat 8 ((off - 0x800) / 4)))
      else none
    else none

/-- The size of the window in bytes (R50). -/
def windowSize : Nat := 0x1000

/-- The register an access reaches: a 32-bit access at an offset where one is mapped; none where the block answers with
a bus error (R52, R53). -/
def accessTarget (a : Access) : Option Reg :=
  if a.size == 4 then regAt a.offset else none

/-- What a read of a register answers (R51); bits that are not live read as 0, and CMD reads as 0 (R54). -/
def readRegister (r : Reg) (s : State) : Word :=
  match r with
  | .cmd => 0x00000000#32
  | .status => s.status.word
  | .addrIn => s.addrIn
  | .valIn => s.valIn
  | .addrOut => s.addrOut
  | .valOut => s.valOut
  | .autoState => s.st.word
  | .rc4KeyLen => s.keyLen.setWidth 32
  | .rc4Data => s.rc4Data.setWidth 32
  | .rc4Cur => s.rc4.cursorWord
  | .mxBaseLo => loWord s.mxBase
  | .mxBaseHi => hiWord s.mxBase
  | .mxExpLo => loWord s.mxExp
  | .mxExpHi => hiWord s.mxExp
  | .mxModLo => loWord s.mxMod
  | .mxModHi => hiWord s.mxMod
  | .mxResLo => loWord s.mxRes
  | .mxResHi => hiWord s.mxRes
  | .rc4Key k => (entry s.key k).setWidth 32
  | .rc4S k => (entry s.rc4.S k).setWidth 32

/-- What a host write of `w` to a register stores (R54, R58): its live bits in a RW register, the clearing of FAULT in
STATUS, nothing in a RO register. A write to CMD stores nothing; the command it launches is the bus's to run (R80). -/
def writeRegister (r : Reg) (w : Word) (s : State) : State :=
  match r with
  | .status => s.writeStatus w
  | .addrIn => { s with addrIn := w }
  | .valIn => { s with valIn := w }
  | .rc4KeyLen => { s with keyLen := w.setWidth 9 }
  | .rc4Data => { s with rc4Data := w.setWidth 8 }
  | .mxBaseLo => { s with mxBase := setLoWord s.mxBase w }
  | .mxBaseHi => { s with mxBase := setHiWord s.mxBase w }
  | .mxExpLo => { s with mxExp := setLoWord s.mxExp w }
  | .mxExpHi => { s with mxExp := setHiWord s.mxExp w }
  | .mxModLo => { s with mxMod := setLoWord s.mxMod w }
  | .mxModHi => { s with mxMod := setHiWord s.mxMod w }
  | .rc4Key k => { s with key := setEntry s.key k (w.setWidth 8) }
  | .cmd | .addrOut | .valOut | .autoState | .rc4Cur | .mxResLo | .mxResHi | .rc4S _ => s

end Sys2Proof.Machine
end

