-- ==== Sys2Proof/Machine/Bus.lean ====
section
/-!
DEFINITION. What one event from outside does to a block: a host access (R50 to R62, R238) or a reset (R230).
-/

namespace Sys2Proof.Machine

/-- A command word reaches the decoder (R80, R83): a command runs at once, an illegal word raises ILLEGAL_CMD. -/
def runCommand (w : Word) (s : State) : Host.Outcome State Fault Refusal :=
  match decode w with
  | .ok i => exec i s
  | .error _ => .next (s.raiseError .illegalCmd)

/-- One host access (R52 to R58, R60). A rejected one changes nothing and is answered with a bus error (R53, R205); an
access outside the window addresses no block. A CMD write is complete when its command is (R238). -/
def performAccess (a : Access) (s : State) : Host.Outcome State Fault Refusal :=
  if windowSize ≤ a.offset then .fault (.outsideWindow a.offset)
  else
    match accessTarget a with
    | none => .next (s.respond .busError)
    | some r =>
      match a with
      | .read _ _ => .next (s.respond (.data (readRegister r s)))
      | .write _ _ w =>
        if r == .cmd then runCommand w (s.respond .done)
        else .next (writeRegister r w (s.respond .done))

/-- One event: an access, or a reset, whose in-flight access is lost (R230). -/
def performEvent (e : HostEvent) (s : State) : Host.Outcome State Fault Refusal :=
  match e with
  | .access a => performAccess a s
  | .reset _ => .next s.hardReset

/-- The host access that launches the command word `w` (R80): a 32-bit write to CMD at offset 0x000. -/
def commandWrite (w : Word) : HostEvent :=
  .access (.write 4 0x000 w)

/-- The command word whose low `nbits` bits are `w`'s, every bit above them 0. -/
def tableWord (nbits w : Nat) : Word :=
  BitVec.ofNat 32 (w % 2 ^ nbits)

end Sys2Proof.Machine
end

