-- ==== Sys2Proof/Machine/Step.lean ====
section
/-!
DEFINITION. One step: the oldest pending event takes effect completely (R60). The block fetches nothing (R63, R232), so
with nothing pending it waits, its state kept (R214, R232).
-/

namespace Sys2Proof.Machine

def step (s : State) : Host.Outcome State Fault Refusal :=
  match s.pending with
  | [] => .next s
  | e :: es => performEvent e (s.withPending es)

/-- `s` with the host's write of the command word to CMD as its next event. -/
def State.withFetchWord (s : State) (nbits w : Nat) : State :=
  s.withPending (commandWrite (tableWord nbits w) :: s.pending)

end Sys2Proof.Machine
end

