-- ==== Sys2Proof/Machine/Assembler.lean ====
section
/-!
DEFINITION. The host assembler (R87, R88): each line as the bus accesses it stands for.
-/

namespace Sys2Proof.Machine

/-- MemWrite(off, 4, v) (R10). -/
def busWrite (off : Nat) (v : Word) : Access :=
  .write 4 off v

/-- MemRead(off, 4) (R10). -/
def busRead (off : Nat) : Access :=
  .read 4 off

/-- `WR 0x000, OPC(m)` (R88). -/
def commandLine (i : Instr) : Access :=
  busWrite (regOffset .cmd) (encode i)

/-- `LDPAIR a, v` (R88). -/
def loadPair (a v : Word) : List Access :=
  [busWrite (regOffset .addrIn) a, busWrite (regOffset .valIn) v]

/-- The X_LO register of a 64-bit operand or result (R56). -/
def operandLo : Operand64 → Reg
  | .mxBase => .mxBaseLo
  | .mxExp => .mxExpLo
  | .mxMod => .mxModLo
  | .mxRes => .mxResLo

/-- The X_HI register of a 64-bit operand or result (R56). -/
def operandHi : Operand64 → Reg
  | .mxBase => .mxBaseHi
  | .mxExp => .mxExpHi
  | .mxMod => .mxModHi
  | .mxRes => .mxResHi

/-- The expansion of a line (R87, R88): a pseudo-instruction has no behaviour of its own. -/
def assemble : HostLine → List Access
  | .wr off v => [busWrite off v]
  | .wrReg r v => [busWrite (regOffset r) v]
  | .rd off => [busRead off]
  | .rdReg r => [busRead (regOffset r)]
  | .cmd i => [commandLine i]
  | .ldpair a v => loadPair a v
  | .enc1 a v => loadPair a v ++ [commandLine .cb1Enc]
  | .dec1 a v => loadPair a v ++ [commandLine .cb1Dec]
  | .autodec a v => loadPair a v ++ [commandLine .procAutodecrypt]
  | .penc a v => loadPair a v ++ [commandLine .procEncrypt]
  | .pdec a v => loadPair a v ++ [commandLine .procDecrypt]
  | .rdpair => [busRead (regOffset .addrOut), busRead (regOffset .valOut)]
  | .ld64 x q =>
    [busWrite (regOffset (operandLo x)) (loWord q), busWrite (regOffset (operandHi x)) (hiWord q)]
  | .clrfault => [busWrite (regOffset .status) 0x80000000#32]

end Sys2Proof.Machine
end

