-- ==== Sys2Proof/Machine/Platform.lean ====
section
/-!
DEFINITION. A platform of N_INST instances (R2, R212): each block has its own window at its own BLOCK_BASE (R50) and its
own copy of all state. A host access, by host address, reaches at most one of them.
-/

namespace Sys2Proof.Machine

/-- The instances of a platform, numbered from 0. N_INST is a parameter, at least 1 (R6, R212). -/
structure Platform (nInst : Nat) where
  blocks : Vector State nInst
  atLeastOne : 1 ≤ nInst
deriving DecidableEq, Repr

/-- The same access, at another offset. -/
def accessAt (a : Access) (off : Nat) : Access :=
  match a with
  | .read n _ => .read n off
  | .write n _ w => .write n off w

/-- Host address `addr` lies in the window of the instance whose BLOCK_BASE is `base` (R50). -/
def inWindowOf (base addr : Nat) : Bool :=
  base ≤ addr && addr < base + windowSize

/-- The instance of the highest number, among the first `n`, whose window holds `addr`, where BLOCK_BASE of instance k is `base k`. -/
def selected (base : Nat → Nat) (addr : Nat) : (n : Nat) → Option Nat
  | 0 => none
  | n + 1 => if inWindowOf (base n) addr then some n else selected base addr n

/-- One host access to the platform, its offset a host address (R50, R212): it is performed by the instance whose window
it lies in, at the offset from that instance's base, and no other instance changes. Where windows overlap, of which the
spec says nothing, it is the instance of the highest number (DESIGN CHOICE, assumption 11). -/
def Platform.access {nInst : Nat} (base : Nat → Nat) (a : Access) (pl : Platform nInst) :
    Host.Outcome (Platform nInst) Fault Refusal :=
  match selected base a.offset nInst with
  | none => .fault (.outsideWindow a.offset)
  | some k =>
    if h : k < nInst then
      match performAccess (accessAt a (a.offset - base k)) pl.blocks[k] with
      | .next s' => .next { pl with blocks := pl.blocks.set k s' }
      | .fault r => .fault r
      | .refused r => .refused r
    else .fault (.outsideWindow a.offset)

/-- A platform with at least one instance, each of them just reset. R230 says what reset does to one block and leaves its
signalling to the platform; that one platform reset reaches every instance is a DESIGN CHOICE (assumption 18). -/
def Platform.reset (nInst : Nat) (h : 1 ≤ nInst) : Platform nInst where
  blocks := Vector.replicate nInst State.reset
  atLeastOne := h

end Sys2Proof.Machine
end

