-- ==== Sys2Proof/Safety.lean ====
section
/-!
DEFINITION. The invariants a run keeps (R25, R26, R28, R33, R34, R125) and what a run without a fault is.
-/

namespace Sys2Proof.Machine

/-- R28: the table holds each of 0..255 exactly once. -/
def IsPermutation (t : Vector Byte 256) : Prop :=
  Function.Bijective (entry t)

/-- R26: the reachable combinations of st.scheme, st.plain and st.wr. -/
def Automaton.Legal (st : Automaton) : Prop :=
  (st.scheme = .none → st.wr = 0#2 ∧ st.plain = false) ∧
  (st.scheme = .modular → st.plain = false) ∧
  (st.wr = 0#2 ∨ st.wr = 1#2)

/-- The table law (R125): XOR never changes the command nibble. -/
def Rom.Lawful (r : Rom) : Prop :=
  ∀ c : BitVec 4, (r.xorAt c).extractLsb' 28 4 = 0#4

/-- The tables hold their constant contents (R34, R122 to R124). -/
def State.RomIntact (s : State) : Prop :=
  s.rom = romContents Config.hardware.params

/-- The invariant of a block (R20, R26, R28, R33, R34). -/
def State.Inv (s : State) : Prop :=
  s.st.Legal ∧ s.st.sess.Paired ∧ IsPermutation s.rc4.S ∧ s.RomIntact

/-- The event is an access inside the window (R50), or a reset. -/
def HostEventInWindow : HostEvent → Prop
  | .access a => a.inWindow = true
  | .reset _ => True

/-- A safe run: no step of it stops. -/
def State.Safe (s : State) : Prop :=
  ∀ k : Nat, ∃ t, Sys2Proof.core.run k s = .next t

/-- The two addresses that activate (R172), written out. -/
abbrev ActivationAddress (a : Word) : Prop :=
  a = 0xBEEFC0DE#32 ∨ a = 0xBEEFC0DF#32

/-- Some of bits 27:25 is set (R171). -/
abbrev EncryptedAddress (a : Word) : Prop :=
  a.getLsbD 25 = true ∨ a.getLsbD 26 = true ∨ a.getLsbD 27 = true

/-- The logical code that starts with this address has two words (R173). -/
abbrev TwoWordCode (a : Word) : Prop :=
  (a.toNat / 2 ^ 28 = 3 ∧ a.getLsbD 22 = true) ∨
  a.toNat / 2 ^ 28 = 4 ∨ a.toNat / 2 ^ 28 = 5 ∨ a.toNat / 2 ^ 28 = 6

/-- The words still to come in the code that starts with this address: st.wr right after it (R26). -/
def wordsAfter (a : Word) : BitVec 2 :=
  if TwoWordCode a then 1#2 else 0#2

/-- OPC is one of the unassigned opcodes that R83 lists. -/
abbrev UnassignedOpcode (opc : Byte) : Prop :=
  (0x03 ≤ opc.toNat ∧ opc.toNat ≤ 0x0F) ∨ (0x12 ≤ opc.toNat ∧ opc.toNat ≤ 0x1F) ∨
  (0x25 ≤ opc.toNat ∧ opc.toNat ≤ 0x2F) ∨ 0x35 ≤ opc.toNat

/-- The host's use of the stream (R104): for each byte, write it to RC4_DATA, run RC4_BYTE, and read RC4_DATA. The
state after the last byte and the bytes read, in order. -/
def streamBytes : List Byte → State → Option (State × List Byte)
  | [], s => some (s, [])
  | b :: bs, s =>
    match exec .rc4Byte (s.putData b) with
    | .next t => (streamBytes bs t).map fun r => (r.1, t.rc4Data :: r.2)
    | _ => none

/-- Accesses performed one after another (R60), stopping at the first that stops. -/
def performAll : List Access → State → Host.Outcome State Fault Refusal
  | [], s => .next s
  | a :: as, s =>
    match performAccess a s with
    | .next t => performAll as t
    | .fault r => .fault r
    | .refused r => .refused r

end Sys2Proof.Machine
end

