-- ==== Sys2Proof/Certificates/Slice0/Obligations.lean ====
section
/-!
DEFINITION. The statements for the provers. Each docstring names the rule of spec/ it formalises; where a clause is the
model's choice it names the assumption.
-/

open Sys2Proof Sys2Proof.Machine

/-! ## Command words -/

/-- R84, R82: each of the 2^32 words is exactly one command of the opcode map, or none; and the encoder writes the word
that the decoder reads. -/
def Obligations.DecodeReadsExactlyTheCommandWords : Prop :=
  ∀ (w : Word) (i : Instr),
    (decode w = .ok i ↔
      (w, i) ∈ [(0x00000000#32, Instr.nop), (0x00000001#32, .rc4Init), (0x00000002#32, .rc4Byte),
        (0x00000010#32, .cb1Enc), (0x00000011#32, .cb1Dec), (0x00000020#32, .modexp),
        (0x00000021#32, .mcEnc), (0x00000022#32, .mcDec), (0x00000023#32, .mcActivate),
        (0x00000024#32, .mcDefault), (0x00000030#32, .procNew), (0x00000031#32, .procNewDefault),
        (0x00000032#32, .procEncrypt), (0x00000033#32, .procDecrypt), (0x00000034#32, .procAutodecrypt)]) ∧
    (decode w = .ok i ↔ w = encode i)

/-- R83: a word with RSV != 0 or an unassigned OPC raises ILLEGAL_CMD and changes nothing else; every other word is a
command. The response is the bus's answer to the write (assumption 1). -/
def Obligations.IllegalWordsRaiseIllegalCmd : Prop :=
  ErrorCode.illegalCmd.code = 1#4 ∧
  ∀ (w : Word) (s : State),
    (w.extractLsb' 8 24 ≠ 0#24 ∨ UnassignedOpcode (w.extractLsb' 0 8) →
      performEvent (commandWrite w) s =
        .next { s with status := ⟨.illegalCmd, ⟨false, false, false⟩, true⟩, response := .done }) ∧
    (¬ (w.extractLsb' 8 24 ≠ 0#24 ∨ UnassignedOpcode (w.extractLsb' 0 8)) →
      ∃ i t, decode w = .ok i ∧ performEvent (commandWrite w) s = .next t ∧ t.status.err ≠ .illegalCmd)

/-- R60, R80: when the next host access is the write of a command's word to CMD, the step runs that command, on the
state without the pending access and with the write answered (assumption 1). -/
def Obligations.StepRunsTheDecodedCommand : Prop :=
  ∀ (s : State) (es : List HostEvent) (w : Word) (i : Instr),
    s.pending = commandWrite w :: es → decode w = .ok i → i.wellFormed = true →
    step s = exec i { s with pending := es, response := .done }

/-- R82: the words of one command of each unit, written out, decode to it. -/
def Obligations.SampleCommandWordsDecode : Prop :=
  decode 0b00000000000000000000000000000000#32 = .ok .nop ∧
  decode 0b00000000000000000000000000000010#32 = .ok .rc4Byte ∧
  decode 0b00000000000000000000000000010001#32 = .ok .cb1Dec ∧
  decode 0b00000000000000000000000000100000#32 = .ok .modexp ∧
  decode 0b00000000000000000000000000100011#32 = .ok .mcActivate ∧
  decode 0b00000000000000000000000000110100#32 = .ok .procAutodecrypt

/-! ## NOP and the keystream unit -/

/-- R184: NOP sets ERR and the three flags to 0, keeps FAULT, and changes nothing else. -/
def Obligations.NopClearsTheCommandFlags : Prop :=
  decode 0x00000000#32 = .ok .nop ∧
  ∀ s : State, exec .nop s = .next { s with status := ⟨.ok, ⟨false, false, false⟩, s.status.fault⟩ }

/-- R103 with R101: with KEYLEN in 1..256, RC4_INIT leaves in rc4.S the last table of KSA's 256 turns, cursors 0, valid
1; otherwise it raises BAD_KEYLEN and changes nothing but STATUS. `S n` and `j n` are KSA's variables after n turns. -/
def Obligations.Rc4InitRunsTheKeySchedule : Prop :=
  ∀ s : State,
    (1 ≤ s.keyLen.toNat ∧ s.keyLen.toNat ≤ 256 →
      ∃ (S : Nat → Byte → Byte) (j : Nat → Byte) (t : State),
        exec .rc4Init s = .next t ∧
        (∀ k, S 0 k = k) ∧ j 0 = 0#8 ∧
        (∀ n, n < 256 →
          j (n + 1) = j n + S n (BitVec.ofNat 8 n) + entry s.key (BitVec.ofNat 8 (n % s.keyLen.toNat)) ∧
          ∀ k, S (n + 1) k =
            if k = BitVec.ofNat 8 n then S n (j (n + 1))
            else if k = j (n + 1) then S n (BitVec.ofNat 8 n) else S n k) ∧
        (∀ k, entry t.rc4.S k = S 256 k) ∧
        t = { s with
          rc4 := ⟨t.rc4.S, 0#8, 0#8, true⟩
          status := ⟨.ok, ⟨false, false, false⟩, s.status.fault⟩ }) ∧
    (s.keyLen.toNat = 0 ∨ 257 ≤ s.keyLen.toNat →
      exec .rc4Init s = .next { s with status := ⟨.badKeylen, ⟨false, false, false⟩, true⟩ })

/-- R104 with R102: with rc4.valid, RC4_BYTE advances both cursors, swaps the two entries they name, and replaces
RC4_DATA by itself XOR the entry that the sum of the two selects; without it, it raises RC4_UNINIT and changes nothing
but STATUS. -/
def Obligations.Rc4ByteAdvancesTheStream : Prop :=
  ∀ s : State,
    (s.rc4.valid = true →
      ∃ (i' j' : Byte) (t : State),
        exec .rc4Byte s = .next t ∧
        i' = s.rc4.i + 1#8 ∧ j' = s.rc4.j + entry s.rc4.S i' ∧
        (∀ k, entry t.rc4.S k =
          if k = i' then entry s.rc4.S j' else if k = j' then entry s.rc4.S i' else entry s.rc4.S k) ∧
        t.rc4Data = s.rc4Data ^^^ entry t.rc4.S (entry t.rc4.S i' + entry t.rc4.S j') ∧
        t = { s with
          rc4 := ⟨t.rc4.S, i', j', true⟩
          rc4Data := t.rc4Data
          status := ⟨.ok, ⟨false, false, false⟩, s.status.fault⟩ }) ∧
    (s.rc4.valid = false →
      exec .rc4Byte s = .next { s with status := ⟨.rc4Uninit, ⟨false, false, false⟩, true⟩ })

/-- R103, corner case: two keys with the same cyclic extension to 256 bytes give the same stream state, whatever else
differs between the two blocks, the old stream included. -/
def Obligations.CyclicKeyDecidesTheSchedule : Prop :=
  ∀ s u : State,
    1 ≤ s.keyLen.toNat → s.keyLen.toNat ≤ 256 → 1 ≤ u.keyLen.toNat → u.keyLen.toNat ≤ 256 →
    (∀ n, n < 256 → entry s.key (BitVec.ofNat 8 (n % s.keyLen.toNat)) =
      entry u.key (BitVec.ofNat 8 (n % u.keyLen.toNat))) →
    ∃ t v, exec .rc4Init s = .next t ∧ exec .rc4Init u = .next v ∧ t.rc4 = v.rc4

/-- R105, first half: a stream run on its own output restores the bytes when RC4_INIT with the same key comes between. -/
def Obligations.ReinitialisedStreamRestoresTheBytes : Prop :=
  ∀ (s : State) (ps : List Byte),
    1 ≤ s.keyLen.toNat → s.keyLen.toNat ≤ 256 →
    ∃ t u v w cs, exec .rc4Init s = .next t ∧ streamBytes ps t = some (u, cs) ∧
      exec .rc4Init u = .next v ∧ streamBytes cs v = some (w, ps)

/-- R106: two blocks with the same running stream, fed as many bytes each, keep the same stream and draw the same
keystream bytes, whatever the bytes are and whatever else differs. -/
def Obligations.KeystreamIgnoresTheData : Prop :=
  ∀ (bs cs : List Byte) (s u : State),
    s.rc4 = u.rc4 → s.rc4.valid = true → bs.length = cs.length →
    ∃ t v xs ys, streamBytes bs s = some (t, xs) ∧ streamBytes cs u = some (v, ys) ∧ t.rc4 = v.rc4 ∧
      List.zipWith (· ^^^ ·) bs xs = List.zipWith (· ^^^ ·) cs ys

/-! ## Table unit -/

/-- R126, R128: CB1_ENC in numbers: the low three bytes rotated, the ADD_TABLE entry added modulo 2^24, the top byte
kept, the XOR_TABLE entry applied; the value changed only above command nibble 2. Nothing else changes but STATUS. -/
def Obligations.Cb1EncEncryptsTheOperandPair : Prop :=
  ∀ s : State, ∃ t : State,
    exec .cb1Enc s = .next t ∧
    (let a := s.addrIn.toNat
     let c := BitVec.ofNat 4 (a / 2 ^ 28)
     t.addrOut = BitVec.ofNat 32
        (a / 2 ^ 24 * 2 ^ 24 + (a % 256 * 2 ^ 16 + a / 2 ^ 8 % 2 ^ 16 + (s.rom.addAt c).toNat) % 2 ^ 24)
        ^^^ s.rom.xorAt c ∧
     t.valOut = if 2 < a / 2 ^ 28 then t.addrOut ^^^ (s.valIn + s.rom.valAt c) else s.valIn) ∧
    t = { s with
      addrOut := t.addrOut
      valOut := t.valOut
      status := ⟨.ok, ⟨false, false, false⟩, s.status.fault⟩ }

/-- R127, R129: CB1_DEC in numbers: the value restored with the input address, the XOR_TABLE entry applied, the ADD_TABLE
entry subtracted modulo 2^24, the low three bytes rotated back. Nothing else changes but STATUS. -/
def Obligations.Cb1DecDecryptsTheOperandPair : Prop :=
  ∀ s : State, ∃ t : State,
    exec .cb1Dec s = .next t ∧
    (let c := BitVec.ofNat 4 (s.addrIn.toNat / 2 ^ 28)
     let x := (s.addrIn ^^^ s.rom.xorAt c).toNat
     let r := (x + 2 ^ 32 - (s.rom.addAt c).toNat) % 2 ^ 24
     t.addrOut.toNat = x / 2 ^ 24 * 2 ^ 24 + r % 2 ^ 16 * 2 ^ 8 + r / 2 ^ 16 ∧
     t.valOut = if 2 < s.addrIn.toNat / 2 ^ 28 then (s.valIn ^^^ s.addrIn) - s.rom.valAt c else s.valIn) ∧
    t = { s with
      addrOut := t.addrOut
      valOut := t.valOut
      status := ⟨.ok, ⟨false, false, false⟩, s.status.fault⟩ }

/-- R130: for every pair, under tables that meet the law of R125, decrypting what was encrypted gives the pair back, and
encrypting what was decrypted too. -/
def Obligations.TableCommandsUndoEachOther : Prop :=
  ∀ s : State, s.rom.Lawful →
    (∃ t u, exec .cb1Enc s = .next t ∧
      exec .cb1Dec { t with addrIn := t.addrOut, valIn := t.valOut } = .next u ∧
      u.addrOut = s.addrIn ∧ u.valOut = s.valIn) ∧
    (∃ t u, exec .cb1Dec s = .next t ∧
      exec .cb1Enc { t with addrIn := t.addrOut, valIn := t.valOut } = .next u ∧
      u.addrOut = s.addrIn ∧ u.valOut = s.valIn)

/-- R131: encryption keeps the command nibble and XORs the top byte with the table's, which is 0x0A in every row; so an
address with bits 27:25 clear encrypts to one with bits 27 and 25 set. The second half is about the contents of R122. -/
def Obligations.EncryptionMarksTheTopByte : Prop :=
  (∀ (rom : Rom) (pr : Pair), rom.Lawful →
    commandNibble (tableEncrypt rom pr).addr = commandNibble pr.addr ∧
    (tableEncrypt rom pr).addr.extractLsb' 24 8 =
      pr.addr.extractLsb' 24 8 ^^^ (rom.xorAt (commandNibble pr.addr)).extractLsb' 24 8) ∧
  ∀ (p : Config.Params) (pr : Pair),
    (romContents p).Lawful ∧
    (tableEncrypt (romContents p) pr).addr.extractLsb' 24 8 = pr.addr.extractLsb' 24 8 ^^^ 0x0A#8 ∧
    (pr.addr.extractLsb' 25 3 = 0#3 →
      (tableEncrypt (romContents p) pr).addr.getLsbD 25 = true ∧
      (tableEncrypt (romContents p) pr).addr.getLsbD 27 = true)

/-- R124: entries 0 to 2 of VAL_TABLE are never read: two blocks that differ in them alone answer alike. -/
def Obligations.LowValueEntriesAreNeverRead : Prop :=
  ∀ (s : State) (v : Vector Word 16),
    (∀ c : BitVec 4, 3 ≤ c.toNat → v[c.toNat] = s.rom.valAt c) →
    ∀ i : Instr, ∃ t u, exec i s = .next t ∧
      exec i { s with rom := { s.rom with valTable := v } } = .next u ∧
      u = { t with rom := u.rom }

/-! ## Modular unit -/

/-- R142 with R141: with a non-zero modulus MODEXP leaves base^exponent mod modulus in MX_RES, where 0^0 = 1; with modulus
0 it raises MOD_ZERO. Nothing else changes but STATUS. -/
def Obligations.ModexpComputesThePower : Prop :=
  decode 0x00000020#32 = .ok .modexp ∧ ErrorCode.modZero.code = 4#4 ∧
  ∀ s : State,
    (s.mxMod ≠ 0#64 →
      exec .modexp s = .next { s with
        mxRes := BitVec.ofNat 64 (s.mxBase.toNat ^ s.mxExp.toNat % s.mxMod.toNat)
        status := ⟨.ok, ⟨false, false, false⟩, s.status.fault⟩ }) ∧
    (s.mxMod = 0#64 →
      exec .modexp s = .next { s with status := ⟨.modZero, ⟨false, false, false⟩, true⟩ })

/-- R153 with R143, R146: MC_ENC takes the pair integer through PRE, raises it to e_enc modulo n where it is below n and
passes it where it is not, takes it through POST, and splits it; nothing else changes but STATUS. -/
def Obligations.McEncEncryptsUnderTheSession : Prop :=
  ∀ s : State, ∃ (t : State) (x : Dword),
    exec .mcEnc s = .next t ∧
    x = Config.hardware.params.pre s.st.sess (s.addrIn ++ s.valIn : Dword) ∧
    (t.addrOut ++ t.valOut : Dword) = Config.hardware.params.post s.st.sess
      (if x.toNat < s.st.sess.n.toNat then BitVec.ofNat 64 (x.toNat ^ s.st.sess.eEnc.toNat % s.st.sess.n.toNat)
        else x) ∧
    t = { s with
      addrOut := t.addrOut
      valOut := t.valOut
      status := ⟨.ok, ⟨false, false, false⟩, s.status.fault⟩ }

/-- R154 with R143, R147: MC_DEC, the same way with e_dec and the inverse stages. -/
def Obligations.McDecDecryptsUnderTheSession : Prop :=
  ∀ s : State, ∃ (t : State) (x : Dword),
    exec .mcDec s = .next t ∧
    Config.hardware.params.post s.st.sess x = (s.addrIn ++ s.valIn : Dword) ∧
    Config.hardware.params.pre s.st.sess (t.addrOut ++ t.valOut : Dword) =
      (if x.toNat < s.st.sess.n.toNat then BitVec.ofNat 64 (x.toNat ^ s.st.sess.eDec.toNat % s.st.sess.n.toNat)
        else x) ∧
    t = { s with
      addrOut := t.addrOut
      valOut := t.valOut
      status := ⟨.ok, ⟨false, false, false⟩, s.status.fault⟩ }

/-- R148: under a session that meets the pairing law, the two transforms undo each other for every pair, under any
parameters, and so do the two commands, which keep the session. -/
def Obligations.ModularCommandsUndoEachOther : Prop :=
  (∀ (p : Config.Params) (e : Session) (pr : Pair), e.Paired →
    mcDecrypt p e (mcEncrypt p e pr) = pr ∧ mcEncrypt p e (mcDecrypt p e pr) = pr) ∧
  ∀ s : State, s.st.sess.Paired →
    (∃ t u, exec .mcEnc s = .next t ∧
      exec .mcDec { t with addrIn := t.addrOut, valIn := t.valOut } = .next u ∧
      u.addrOut = s.addrIn ∧ u.valOut = s.valIn ∧ u.st = s.st) ∧
    (∃ t u, exec .mcDec s = .next t ∧
      exec .mcEnc { t with addrIn := t.addrOut, valIn := t.valOut } = .next u ∧
      u.addrOut = s.addrIn ∧ u.valOut = s.valIn ∧ u.st = s.st)

/-- R155 with R149: MC_ACTIVATE re-derives the session from the operand pair, whatever the address, sets ACT, and changes
nothing else: not the scheme, not the counter, not the output pair, not the keystream unit. -/
def Obligations.McActivateRederivesTheSession : Prop :=
  decode 0x00000023#32 = .ok .mcActivate ∧
  ∀ s : State, exec .mcActivate s = .next { s with
    st := { s.st with sess := Config.hardware.params.derive s.st.sess s.addrIn s.valIn }
    status := ⟨.ok, ⟨true, false, false⟩, s.status.fault⟩ }

/-- R156 with R151: MC_DEFAULT installs the session that PROC_NEW and then MC_ACTIVATE with (0xBEEFC0DE, 0) derive,
whatever the prior session, and changes nothing else but STATUS. -/
def Obligations.McDefaultInstallsTheDefaultSession : Prop :=
  decode 0x00000024#32 = .ok .mcDefault ∧
  ∀ s : State, ∃ n a,
    exec .procNew s = .next n ∧
    exec .mcActivate { n with addrIn := 0xBEEFC0DE#32, valIn := 0x00000000#32 } = .next a ∧
    exec .mcDefault s = .next { s with
      st := { s.st with sess := a.st.sess }
      status := ⟨.ok, ⟨false, false, false⟩, s.status.fault⟩ }

/-- R152: after MC_DEFAULT, MC_DEC maps each of the three ciphertexts to its plaintext, and MC_ENC each plaintext to its
ciphertext. -/
def Obligations.DefaultSessionMeetsItsVectors : Prop :=
  ∀ (s : State) (c m : Pair),
    (c, m) ∈ [((⟨0xD08F3A49#32, 0x00078A53#32⟩, ⟨0x9029BEAC#32, 0x0C0A9225#32⟩) : Pair × Pair),
      (⟨0x3818DDE5#32, 0xE72B2B16#32⟩, ⟨0x201F6024#32, 0x00000000#32⟩),
      (⟨0x973E0B2A#32, 0xA7D4AF10#32⟩, ⟨0x2096F5B8#32, 0x000000BE#32⟩)] →
    ∃ t u v, exec .mcDefault s = .next t ∧
      exec .mcDec { t with addrIn := c.addr, valIn := c.val } = .next u ∧
      u.addrOut = m.addr ∧ u.valOut = m.val ∧
      exec .mcEnc { t with addrIn := m.addr, valIn := m.val } = .next v ∧
      v.addrOut = c.addr ∧ v.valOut = c.val

/-! ## Processor commands -/

/-- R185: PROC_NEW sets the automaton to None, plain 0, words-remaining 0 and INITIAL_SESSION, and changes nothing else
but STATUS; FAULT stays. AUTO_STATE then reads 0. -/
def Obligations.ProcNewStartsANewProcessor : Prop :=
  decode 0x00000030#32 = .ok .procNew ∧
  ∀ s : State, ∃ t,
    exec .procNew s = .next t ∧ readRegister .autoState t = 0x00000000#32 ∧
    t = { s with
      st := ⟨.none, false, 0#2, Config.hardware.params.initialSession⟩
      status := ⟨.ok, ⟨false, false, false⟩, s.status.fault⟩ }

/-- R186 with R151: PROC_NEW_DEFAULT sets the automaton to Modular with words-remaining 0 and the default session, and
changes nothing else but STATUS. -/
def Obligations.ProcNewDefaultStartsInTheDefaultSession : Prop :=
  decode 0x00000031#32 = .ok .procNewDefault ∧
  ∀ s : State, exec .procNewDefault s = .next { s with
    st := ⟨.modular, false, 0#2, Config.hardware.params.derive Config.hardware.params.initialSession
      0xBEEFC0DE#32 0x00000000#32⟩
    status := ⟨.ok, ⟨false, false, false⟩, s.status.fault⟩ }

/-- R187: PROC_ENCRYPT outputs what MC_ENC does in scheme Modular and what CB1_ENC does otherwise; if its INPUT address is
an activation address, the session is re-derived from the input pair, the scheme becomes Modular, plain 0 and ACT 1;
st.wr and everything else stay. -/
def Obligations.ProcEncryptFollowsTheScheme : Prop :=
  ∀ s : State, ∃ t c m,
    exec .cb1Enc s = .next c ∧ exec .mcEnc s = .next m ∧ exec .procEncrypt s = .next t ∧
    t.addrOut = (if s.st.scheme = .modular then m.addrOut else c.addrOut) ∧
    t.valOut = (if s.st.scheme = .modular then m.valOut else c.valOut) ∧
    (ActivationAddress s.addrIn →
      t.st = ⟨.modular, false, s.st.wr, Config.hardware.params.derive s.st.sess s.addrIn s.valIn⟩ ∧
      t.status = ⟨.ok, ⟨true, false, false⟩, s.status.fault⟩) ∧
    (¬ ActivationAddress s.addrIn →
      t.st = s.st ∧ t.status = ⟨.ok, ⟨false, false, false⟩, s.status.fault⟩) ∧
    t = { s with addrOut := t.addrOut, valOut := t.valOut, st := t.st, status := t.status }

/-- R188: PROC_DECRYPT outputs what MC_DEC does in scheme Modular and what CB1_DEC does otherwise; if its OUTPUT address
is an activation address, the session is re-derived from the output pair, the scheme becomes Modular, plain 0 and ACT 1;
st.wr and everything else stay. -/
def Obligations.ProcDecryptFollowsTheScheme : Prop :=
  ∀ s : State, ∃ t c m,
    exec .cb1Dec s = .next c ∧ exec .mcDec s = .next m ∧ exec .procDecrypt s = .next t ∧
    t.addrOut = (if s.st.scheme = .modular then m.addrOut else c.addrOut) ∧
    t.valOut = (if s.st.scheme = .modular then m.valOut else c.valOut) ∧
    (ActivationAddress t.addrOut →
      t.st = ⟨.modular, false, s.st.wr, Config.hardware.params.derive s.st.sess t.addrOut t.valOut⟩ ∧
      t.status = ⟨.ok, ⟨true, false, false⟩, s.status.fault⟩) ∧
    (¬ ActivationAddress t.addrOut →
      t.st = s.st ∧ t.status = ⟨.ok, ⟨false, false, false⟩, s.status.fault⟩) ∧
    t = { s with addrOut := t.addrOut, valOut := t.valOut, st := t.st, status := t.status }

/-- R175 to R180, the output multiplexer: PROC_AUTODECRYPT outputs what MC_DEC does in scheme Modular; where a code starts
outside it, the input pair if its address is an activation address or has bits 27:25 clear and what CB1_DEC does
otherwise; inside a code, the input pair if the code is plaintext and what CB1_DEC does otherwise. The registers outside
the automaton, the output pair and STATUS stay. -/
def Obligations.AutodecryptRoutesThePair : Prop :=
  ∀ s : State, ∃ t c m,
    exec .cb1Dec s = .next c ∧ exec .mcDec s = .next m ∧ exec .procAutodecrypt s = .next t ∧
    (t.addrOut, t.valOut) =
      (if s.st.scheme = .modular then (m.addrOut, m.valOut)
       else if s.st.wr = 0#2 then
         (if ActivationAddress s.addrIn ∨ ¬ EncryptedAddress s.addrIn then (s.addrIn, s.valIn)
          else (c.addrOut, c.valOut))
       else if s.st.plain = true then (s.addrIn, s.valIn) else (c.addrOut, c.valOut)) ∧
    t = { s with addrOut := t.addrOut, valOut := t.valOut, st := t.st, status := t.status }

/-- R176, clause A: outside Modular, where a code starts, an activation address is consumed: one derivation from the raw
pair, Modular with words-remaining 1, the input pair as output, ACT and CONS set. -/
def Obligations.RawActivationIsConsumed : Prop :=
  ∀ s : State, s.st.scheme ≠ .modular → s.st.wr = 0#2 → ActivationAddress s.addrIn →
    exec .procAutodecrypt s = .next { s with
      addrOut := s.addrIn
      valOut := s.valIn
      st := ⟨.modular, false, 1#2, Config.hardware.params.derive s.st.sess s.addrIn s.valIn⟩
      status := ⟨.ok, ⟨true, true, false⟩, s.status.fault⟩ }

/-- R177, clause B: outside Modular, where a code starts, an address with a reserved bit set that is no activation address
starts an encrypted code; the words to come are counted from the DECRYPTED address. (Where that address activates,
clause F decides: DecryptedActivationWins.) -/
def Obligations.EncryptedCodeStarts : Prop :=
  ∀ s : State, s.st.scheme ≠ .modular → s.st.wr = 0#2 → EncryptedAddress s.addrIn → ¬ ActivationAddress s.addrIn →
    ∃ c, exec .cb1Dec s = .next c ∧
      (¬ ActivationAddress c.addrOut →
        exec .procAutodecrypt s = .next { c with
          st := ⟨.table, false, wordsAfter c.addrOut, s.st.sess⟩ })

/-- R178, clause C: outside Modular, where a code starts, an address with bits 27:25 clear starts a plaintext code, which
is passed through; clause F cannot fire (R181). -/
def Obligations.PlaintextCodeStarts : Prop :=
  ∀ s : State, s.st.scheme ≠ .modular → s.st.wr = 0#2 → ¬ EncryptedAddress s.addrIn →
    exec .procAutodecrypt s = .next { s with
      addrOut := s.addrIn
      valOut := s.valIn
      st := ⟨.table, true, wordsAfter s.addrIn, s.st.sess⟩
      status := ⟨.ok, ⟨false, false, false⟩, s.status.fault⟩ }

/-- R179, clause D: outside Modular, inside a code, the counter goes down by one and neither the scheme nor the plaintext
flag changes, unless the output address activates (clause F). -/
def Obligations.ContinuationWordCountsDown : Prop :=
  ∀ s : State, s.st.scheme ≠ .modular → s.st.wr ≠ 0#2 →
    ∃ t, exec .procAutodecrypt s = .next t ∧
      (¬ ActivationAddress t.addrOut →
        t.st.wr.toNat + 1 = s.st.wr.toNat ∧ t.st = { s.st with wr := t.st.wr } ∧
        t.status = ⟨.ok, ⟨false, false, false⟩, s.status.fault⟩)

/-- R180, clause E: in scheme Modular the output pair is what MC_DEC outputs under the session; inside a code the counter goes down by one;
where a code starts, the sentinel 0xFFFFFFFF sets UNSUP and leaves the counter 0, and any other address sets the counter
to the words to come; unless the output address activates (clause F). -/
def Obligations.ModularPairCountsItsCode : Prop :=
  ∀ s : State, s.st.scheme = .modular →
    ∃ t m, exec .mcDec s = .next m ∧ exec .procAutodecrypt s = .next t ∧
      t.addrOut = m.addrOut ∧ t.valOut = m.valOut ∧
      (¬ ActivationAddress t.addrOut →
        t.st = { s.st with wr := t.st.wr } ∧
        (s.st.wr ≠ 0#2 →
          t.st.wr.toNat + 1 = s.st.wr.toNat ∧ t.status = ⟨.ok, ⟨false, false, false⟩, s.status.fault⟩) ∧
        (s.st.wr = 0#2 →
          t.st.wr = wordsAfter t.addrOut ∧
          t.status = ⟨.ok, ⟨false, false, t.addrOut == 0xFFFFFFFF#32⟩, s.status.fault⟩))

/-- R181, clause F: in every case but clause A's, an output address that activates wins over what the clause decided: the
session is re-derived from the OUTPUT pair, Modular, plain 0, words-remaining 1, and ACT alone is set; the pair is
emitted. -/
def Obligations.DecryptedActivationWins : Prop :=
  ∀ s : State, ¬ (s.st.scheme ≠ .modular ∧ s.st.wr = 0#2 ∧ ActivationAddress s.addrIn) →
    ∃ t, exec .procAutodecrypt s = .next t ∧
      (ActivationAddress t.addrOut →
        t.st = ⟨.modular, false, 1#2, Config.hardware.params.derive s.st.sess t.addrOut t.valOut⟩ ∧
        t.status = ⟨.ok, ⟨true, false, false⟩, s.status.fault⟩)

/-- R182: no step moves the scheme away from Modular but reset and PROC_NEW. -/
def Obligations.ModularSchemePersists : Prop :=
  ∀ s t : State, step s = .next t → s.st.scheme = .modular →
    t.st.scheme = .modular ∨
    (∃ l es, s.pending = .reset l :: es) ∨
    (∃ es, s.pending = commandWrite 0x00000030#32 :: es)

/-! ## Errors and STATUS -/

/-- R202: these twelve commands complete with ERR = 0 from every state, and leave FAULT as it was. -/
def Obligations.CipherCommandsNeverFail : Prop :=
  ∀ (i : Instr) (s : State),
    i ∈ [Instr.nop, .cb1Enc, .cb1Dec, .mcEnc, .mcDec, .mcActivate, .mcDefault, .procNew, .procNewDefault,
      .procEncrypt, .procDecrypt, .procAutodecrypt] →
    ∃ t, exec i s = .next t ∧ t.status.err = .ok ∧ t.status.fault = s.status.fault

/-- R203: whatever word is written to CMD, if ERR is not 0 after it, then nothing changed but STATUS: the three flags are
0 and FAULT is 1. (The response is the bus's answer, assumption 1.) -/
def Obligations.FailedCommandChangesOnlyStatus : Prop :=
  ∀ (w : Word) (s : State), ∃ t,
    performEvent (commandWrite w) s = .next t ∧
    (t.status.err ≠ .ok →
      t = { s with status := ⟨t.status.err, ⟨false, false, false⟩, true⟩, response := .done })

/-- R201, R206: the error a CMD write leaves, for each cause, and no other: the decoder's check comes first, and each
assigned command can raise at most one error. -/
def Obligations.ErrorCodeNamesItsCause : Prop :=
  ∀ (w : Word) (s : State), ∃ t,
    performEvent (commandWrite w) s = .next t ∧
    (t.status.err = .illegalCmd ↔ ∀ i, decode w ≠ .ok i) ∧
    (t.status.err = .badKeylen ↔ w = 0x00000001#32 ∧ (s.keyLen.toNat = 0 ∨ 256 < s.keyLen.toNat)) ∧
    (t.status.err = .rc4Uninit ↔ w = 0x00000002#32 ∧ s.rc4.valid = false) ∧
    (t.status.err = .modZero ↔ w = 0x00000020#32 ∧ s.mxMod = 0#64)

/-- R204: FAULT stays set through every step but a reset and a host write with bit 31 to STATUS, which clears it; a CMD
write sets it exactly when its command ends with ERR != 0, and never clears it. -/
def Obligations.FaultBitIsSticky : Prop :=
  (∀ s t : State, step s = .next t → s.status.fault = true →
    t.status.fault = true ∨ (∃ l es, s.pending = .reset l :: es) ∨
    (∃ w es, s.pending = .access (.write 4 0x004 w) :: es ∧ w.getLsbD 31 = true)) ∧
  (∀ (s : State) (w : Word), w.getLsbD 31 = true →
    performAccess (.write 4 0x004 w) s =
      .next { s with status := { s.status with fault := false }, response := .done }) ∧
  (∀ (s : State) (w : Word), ∃ t, performEvent (commandWrite w) s = .next t ∧
    t.status.fault = (s.status.fault || t.status.err != .ok))

/-- R38: ERR, FAULT and the flags are read by no command: from two states that differ in STATUS alone, each command
leaves the same state but for STATUS, and there the same ERR and flags; FAULT only accumulates. -/
def Obligations.StatusIsNeverRead : Prop :=
  ∀ (i : Instr) (s : State) (x : Status), ∃ t u,
    exec i s = .next t ∧ exec i { s with status := x } = .next u ∧
    u = { t with status := u.status } ∧
    u.status.err = t.status.err ∧ u.status.flags = t.status.flags ∧
    t.status.fault = (s.status.fault || t.status.err != .ok) ∧
    u.status.fault = (x.fault || u.status.err != .ok)

/-- R24 with R201: the word a read of STATUS answers, field by field: ERR, then ACT, CONS and UNSUP at bits 4 to 6, FAULT
at bit 31, and 0 at every other bit, BUSY among them. -/
def Obligations.StatusWordHoldsItsFields : Prop :=
  ∀ s : State, (readRegister .status s).toNat =
    (match s.status.err with
      | .ok => 0 | .illegalCmd => 1 | .badKeylen => 2 | .rc4Uninit => 3 | .modZero => 4) +
    2 ^ 4 * s.status.flags.act.toNat + 2 ^ 5 * s.status.flags.cons.toNat + 2 ^ 6 * s.status.flags.unsup.toNat +
    2 ^ 31 * s.status.fault.toNat

/-- R25 and R51, with R22, R27, R31 and R56: the words that the read-only registers other than STATUS answer: AUTO_STATE
and RC4_CUR field by field, ADDR_OUT and VAL_OUT the output pair, MX_RES_LO and MX_RES_HI the two halves of MX_RES, and
RC4_S[k] entry k of rc4.S, widened with zeros. -/
def Obligations.ViewWordsHoldTheirFields : Prop :=
  ∀ s : State,
    (readRegister .autoState s).toNat =
      (match s.st.scheme with | .none => 0 | .table => 1 | .modular => 2) +
      2 ^ 2 * s.st.plain.toNat + 2 ^ 4 * s.st.wr.toNat ∧
    (readRegister .rc4Cur s).toNat =
      s.rc4.i.toNat + 2 ^ 8 * s.rc4.j.toNat + 2 ^ 16 * s.rc4.valid.toNat ∧
    readRegister .addrOut s = s.addrOut ∧ readRegister .valOut s = s.valOut ∧
    (readRegister .mxResLo s).toNat = s.mxRes.toNat % 2 ^ 32 ∧
    (readRegister .mxResHi s).toNat = s.mxRes.toNat / 2 ^ 32 ∧
    ∀ k : Byte, (readRegister (.rc4S k) s).toNat = (entry s.rc4.S k).toNat

/-! ## The register window -/

/-- R51: the whole register map: which register lies at which offset, and none at any other; the offset that the
assembler gives a register is the one where the bus finds it. -/
def Obligations.RegisterMapIsExact : Prop :=
  ∀ (off : Nat) (r : Reg),
    (regAt off = some r ↔
      (off, r) ∈ [(0x000, Reg.cmd), (0x004, .status), (0x008, .addrIn), (0x00C, .valIn), (0x010, .addrOut),
        (0x014, .valOut), (0x018, .autoState), (0x020, .rc4KeyLen), (0x024, .rc4Data), (0x028, .rc4Cur),
        (0x030, .mxBaseLo), (0x034, .mxBaseHi), (0x038, .mxExpLo), (0x03C, .mxExpHi), (0x040, .mxModLo),
        (0x044, .mxModHi), (0x048, .mxResLo), (0x04C, .mxResHi)] ∨
      (∃ k : Byte, r = .rc4Key k ∧ off = 0x400 + 4 * k.toNat) ∨
      (∃ k : Byte, r = .rc4S k ∧ off = 0x800 + 4 * k.toNat)) ∧
    (regAt off = some r ↔ off = regOffset r)

/-- R53: in the window, an access of another size than 32 bits, at an offset that is no multiple of 4, or at an unmapped
offset changes nothing and is answered with a bus error; every other access is answered with something else. -/
def Obligations.RejectedAccessChangesNothing : Prop :=
  ∀ (a : Access) (s : State), a.offset < 0x1000 →
    (a.size ≠ 4 ∨ a.offset % 4 ≠ 0 ∨ a.offset = 0x01C ∨ a.offset = 0x02C ∨
        (0x050 ≤ a.offset ∧ a.offset ≤ 0x3FC) ∨ 0xC00 ≤ a.offset →
      performAccess a s = .next { s with response := .busError }) ∧
    (¬ (a.size ≠ 4 ∨ a.offset % 4 ≠ 0 ∨ a.offset = 0x01C ∨ a.offset = 0x02C ∨
        (0x050 ≤ a.offset ∧ a.offset ≤ 0x3FC) ∨ 0xC00 ≤ a.offset) →
      ∃ t, performAccess a s = .next t ∧ t.response ≠ .busError)

/-- R58, R54: a read of a mapped register answers its word and changes nothing; a read of CMD answers 0. -/
def Obligations.ReadsHaveNoSideEffect : Prop :=
  ∀ (r : Reg) (s : State),
    performAccess (.read 4 (regOffset r)) s = .next { s with response := .data (readRegister r s) } ∧
    readRegister .cmd s = 0x00000000#32

/-- R51, R54, R58, R59: a write to a RW register stores the word's live bits, which a read then answers, and every other
register reads as before. -/
def Obligations.WrittenRegisterReadsBack : Prop :=
  ∀ (r : Reg) (live w : Word) (s : State),
    ((r, live) ∈ [(Reg.addrIn, 0xFFFFFFFF#32), (.valIn, 0xFFFFFFFF#32), (.rc4KeyLen, 0x000001FF#32),
        (.rc4Data, 0x000000FF#32), (.mxBaseLo, 0xFFFFFFFF#32), (.mxBaseHi, 0xFFFFFFFF#32),
        (.mxExpLo, 0xFFFFFFFF#32), (.mxExpHi, 0xFFFFFFFF#32), (.mxModLo, 0xFFFFFFFF#32),
        (.mxModHi, 0xFFFFFFFF#32)] ∨
      ∃ k, r = .rc4Key k ∧ live = 0x000000FF#32) →
    ∃ t, performAccess (.write 4 (regOffset r) w) s = .next t ∧
      readRegister r t = w &&& live ∧
      (∀ q, q ≠ r → readRegister q t = readRegister q s) ∧
      t.status = s.status ∧ t.st = s.st ∧ t.rc4 = s.rc4 ∧ t.rom = s.rom ∧ t.pending = s.pending

/-- R54: a write to a RO register changes nothing, and a write to STATUS changes FAULT alone, cleared by bit 31. -/
def Obligations.ReadOnlyRegistersIgnoreWrites : Prop :=
  ∀ (w : Word) (s : State),
    (∀ r : Reg, r ∈ [Reg.addrOut, .valOut, .autoState, .rc4Cur, .mxResLo, .mxResHi] ∨ (∃ k, r = .rc4S k) →
      performAccess (.write 4 (regOffset r) w) s = .next { s with response := .done }) ∧
    performAccess (.write 4 (regOffset .status) w) s = .next { s with
      status := { s.status with fault := !w.getLsbD 31 && s.status.fault }
      response := .done }

/-- R59: a write to RC4_KEY[k] or RC4_KEYLEN changes only that key byte or KEYLEN, not the running keystream. -/
def Obligations.KeyWritesLeaveTheStream : Prop :=
  ∀ (w : Word) (s : State),
    (∀ k : Byte, ∃ t, performAccess (.write 4 (0x400 + 4 * k.toNat) w) s = .next t ∧
      (∀ x, entry t.key x = if x = k then w.setWidth 8 else entry s.key x) ∧
      t = { s with key := t.key, response := .done }) ∧
    performAccess (.write 4 0x020 w) s = .next { s with keyLen := w.setWidth 9, response := .done }

/-- R56, R88: the two halves of a 64-bit operand, written in either order, make the operand, and so does LD64; LD64 of
MX_RES, which the model takes for an X of R88 (its choice: assumption 17), writes nothing. -/
def Obligations.OperandHalvesMakeTheOperand : Prop :=
  ∀ (q : Dword) (s : State),
    (performAll [.write 4 0x030 (q.extractLsb' 0 32), .write 4 0x034 (q.extractLsb' 32 32)] s =
        .next { s with mxBase := q, response := .done } ∧
      performAll [.write 4 0x034 (q.extractLsb' 32 32), .write 4 0x030 (q.extractLsb' 0 32)] s =
        .next { s with mxBase := q, response := .done }) ∧
    (performAll [.write 4 0x038 (q.extractLsb' 0 32), .write 4 0x03C (q.extractLsb' 32 32)] s =
        .next { s with mxExp := q, response := .done } ∧
      performAll [.write 4 0x03C (q.extractLsb' 32 32), .write 4 0x038 (q.extractLsb' 0 32)] s =
        .next { s with mxExp := q, response := .done }) ∧
    (performAll [.write 4 0x040 (q.extractLsb' 0 32), .write 4 0x044 (q.extractLsb' 32 32)] s =
        .next { s with mxMod := q, response := .done } ∧
      performAll [.write 4 0x044 (q.extractLsb' 32 32), .write 4 0x040 (q.extractLsb' 0 32)] s =
        .next { s with mxMod := q, response := .done }) ∧
    performAll (assemble (.ld64 .mxBase q)) s = .next { s with mxBase := q, response := .done } ∧
    performAll (assemble (.ld64 .mxExp q)) s = .next { s with mxExp := q, response := .done } ∧
    performAll (assemble (.ld64 .mxMod q)) s = .next { s with mxMod := q, response := .done } ∧
    performAll (assemble (.ld64 .mxRes q)) s = .next { s with response := .done }

/-- R88: the pseudo-instructions that run a command on a pair are their expansion: the pair is loaded, the command run. -/
def Obligations.PairLinesLoadAndRun : Prop :=
  ∀ (a v : Word) (s : State),
    performAll (assemble (.enc1 a v)) s = exec .cb1Enc { s with addrIn := a, valIn := v, response := .done } ∧
    performAll (assemble (.dec1 a v)) s = exec .cb1Dec { s with addrIn := a, valIn := v, response := .done } ∧
    performAll (assemble (.autodec a v)) s =
      exec .procAutodecrypt { s with addrIn := a, valIn := v, response := .done } ∧
    performAll (assemble (.penc a v)) s = exec .procEncrypt { s with addrIn := a, valIn := v, response := .done } ∧
    performAll (assemble (.pdec a v)) s = exec .procDecrypt { s with addrIn := a, valIn := v, response := .done }

/-- R213, R37: st.sess is never visible: no read answers differently under another session. -/
def Obligations.SessionIsNeverVisible : Prop :=
  ∀ (s : State) (e : Session) (n off : Nat), off < 0x1000 →
    ∃ t u, performAccess (.read n off) s = .next t ∧
      performAccess (.read n off) { s with st := { s.st with sess := e } } = .next u ∧
      t.response = u.response

/-! ## Frames between the units -/

/-- R86, the column "writes", with R21, R22 and R34: what each command can change. -/
def Obligations.CommandsWriteOnlyTheirRegisters : Prop :=
  ∀ (i : Instr) (s : State), ∃ t, exec i s = .next t ∧
    (t.addrIn = s.addrIn ∧ t.valIn = s.valIn ∧ t.key = s.key ∧ t.keyLen = s.keyLen ∧ t.mxBase = s.mxBase ∧
      t.mxExp = s.mxExp ∧ t.mxMod = s.mxMod ∧ t.rom = s.rom ∧ t.pending = s.pending ∧ t.response = s.response) ∧
    (i ∉ [Instr.rc4Init, .rc4Byte] → t.rc4 = s.rc4) ∧
    (i = .rc4Byte → t.rc4.valid = s.rc4.valid) ∧
    (i ≠ .rc4Byte → t.rc4Data = s.rc4Data) ∧
    (i ≠ .modexp → t.mxRes = s.mxRes) ∧
    (i ∉ [Instr.cb1Enc, .cb1Dec, .mcEnc, .mcDec, .procEncrypt, .procDecrypt, .procAutodecrypt] →
      t.addrOut = s.addrOut ∧ t.valOut = s.valOut) ∧
    (i ∉ [Instr.mcActivate, .mcDefault, .procNew, .procNewDefault, .procEncrypt, .procDecrypt, .procAutodecrypt] →
      t.st = s.st) ∧
    (i ∈ [Instr.mcActivate, .mcDefault] → t.st = { s.st with sess := t.st.sess }) ∧
    (i ∈ [Instr.procEncrypt, .procDecrypt] → t.st.wr = s.st.wr)

/-- R86, the column "reads": the table, modular and processor commands read the operand pair, the tables and the
automaton alone: two blocks equal in these give the same output pair, automaton, ERR and flags, whatever their keystream
and exponentiation units and their old output pairs hold. (The four that produce no pair leave it as it was, R22, so for
them alone the old output pairs must be equal.) -/
def Obligations.PairCommandsIgnoreTheOtherUnits : Prop :=
  ∀ (i : Instr) (s u : State),
    i ∈ [Instr.cb1Enc, .cb1Dec, .mcEnc, .mcDec, .mcActivate, .mcDefault, .procNew, .procNewDefault, .procEncrypt,
      .procDecrypt, .procAutodecrypt] →
    s.addrIn = u.addrIn → s.valIn = u.valIn → s.rom = u.rom → s.st = u.st →
    (i ∈ [Instr.mcActivate, .mcDefault, .procNew, .procNewDefault] → s.addrOut = u.addrOut ∧ s.valOut = u.valOut) →
    ∃ t v, exec i s = .next t ∧ exec i u = .next v ∧
      t.addrOut = v.addrOut ∧ t.valOut = v.valOut ∧ t.st = v.st ∧
      t.status.err = v.status.err ∧ t.status.flags = v.status.flags

/-! ## Reset, runs and the platform -/

/-- R36: the value of every piece of state after reset. -/
def Obligations.ResetValuesAreAsListed : Prop :=
  State.reset.addrIn = 0x00000000#32 ∧ State.reset.valIn = 0x00000000#32 ∧
  State.reset.addrOut = 0x00000000#32 ∧ State.reset.valOut = 0x00000000#32 ∧
  readRegister .status State.reset = 0x00000000#32 ∧
  State.reset.st.scheme = .none ∧ State.reset.st.plain = false ∧ State.reset.st.wr = 0#2 ∧
  State.reset.st.sess = Config.hardware.params.initialSession ∧
  (∀ k : Byte, entry State.reset.rc4.S k = k) ∧
  State.reset.rc4.i = 0#8 ∧ State.reset.rc4.j = 0#8 ∧ State.reset.rc4.valid = false ∧
  (∀ k : Byte, entry State.reset.key k = 0x00#8) ∧
  State.reset.keyLen = 0#9 ∧ State.reset.rc4Data = 0x00#8 ∧
  State.reset.mxBase = 0#64 ∧ State.reset.mxExp = 0#64 ∧ State.reset.mxMod = 0#64 ∧ State.reset.mxRes = 0#64 ∧
  State.reset.rom = romContents Config.hardware.params

/-- R230: a reset gives every register its reset value in one step, loses the access in flight, and changes no ROM table;
what the host does next stays (assumption 1). -/
def Obligations.ResetEventRestoresTheRegisters : Prop :=
  ∀ (s : State) (l : Option Access) (es : List HostEvent), s.pending = .reset l :: es →
    step s = .next { State.reset with rom := s.rom, pending := es }

/-- R231: PROC_NEW leaves the automaton as reset does, and FAULT, the interface registers, the keystream unit and the MX
registers as they were. -/
def Obligations.ProcNewResetsOnlyTheAutomaton : Prop :=
  ∀ s : State, ∃ t, exec .procNew s = .next t ∧ t.st = State.reset.st ∧
    t.status.fault = s.status.fault ∧ t.addrIn = s.addrIn ∧ t.valIn = s.valIn ∧
    t.addrOut = s.addrOut ∧ t.valOut = s.valOut ∧ t.rc4 = s.rc4 ∧ t.key = s.key ∧ t.keyLen = s.keyLen ∧
    t.rc4Data = s.rc4Data ∧ t.mxBase = s.mxBase ∧ t.mxExp = s.mxExp ∧ t.mxMod = s.mxMod ∧ t.mxRes = s.mxRes

/-- R26, R28, R33, R34 at reset. -/
def Obligations.ResetMeetsTheInvariant : Prop :=
  State.reset.Inv

/-- R26, R28, R33, R34 over every step from any state that meets them: the automaton stays in a legal state, the session
paired, rc4.S a permutation and the tables as they are. -/
def Obligations.EveryStepKeepsTheInvariant : Prop :=
  ∀ s t : State, s.Inv → step s = .next t → t.Inv

/-- R232 and assumption 1: with nothing pending a step changes nothing. R50 and assumption 5: an access outside the
window addresses no block, and the model faults. -/
def Obligations.IdleStepsWaitAndOutsideAccessesFault : Prop :=
  (∀ s : State, s.pending = [] → step s = .next s) ∧
  ∀ (s : State) (a : Access) (es : List HostEvent),
    s.pending = .access a :: es → 0x1000 ≤ a.offset → step s = .fault (.outsideWindow a.offset)

/-- R200, R208: the block never stops: if every pending access lies in the window (R50), no step of the run faults or
refuses. -/
def Obligations.RunsInTheWindowNeverStop : Prop :=
  ∀ s : State, (∀ e, e ∈ s.pending → HostEventInWindow e) → s.Safe

/-- R212, R50: an access to the platform reaches one instance, whose window holds the address, as an access at the offset
from its base, and no other instance changes; if the windows do not overlap and one holds the address, it does reach it.
(Where windows overlap, of which the spec says nothing, that one instance answers is the model's choice: assumption 11.) -/
def Obligations.InstancesAreIsolated : Prop :=
  ∀ (nInst : Nat) (base : Nat → Nat) (a : Access) (pl : Platform nInst),
    (∀ pl', pl.access base a = .next pl' →
      ∃ k s s', base k ≤ a.offset ∧ a.offset < base k + 0x1000 ∧
        pl.blocks[k]? = some s ∧ pl'.blocks[k]? = some s' ∧
        performAccess (accessAt a (a.offset - base k)) s = .next s' ∧
        ∀ m, m ≠ k → pl'.blocks[m]? = pl.blocks[m]?) ∧
    (∀ k, k < nInst → base k ≤ a.offset → a.offset < base k + 0x1000 →
      (∀ m, m < nInst → m ≠ k → base m + 0x1000 ≤ base k ∨ base k + 0x1000 ≤ base m) →
      ∃ pl' s s', pl.access base a = .next pl' ∧ pl.blocks[k]? = some s ∧ pl'.blocks[k]? = some s' ∧
        performAccess (accessAt a (a.offset - base k)) s = .next s')
end

