-- ==== Sys2Proof/Laws/Operands.lean ====
section
/-!
SUPPORT. The operand forms as numbers, and the inverse pairs among them (R11, R56, R57).
-/

namespace Sys2Proof.Machine

theorem append_toNat (a v : Word) : ((a ++ v : Dword)).toNat = a.toNat * 2 ^ 32 + v.toNat := by
  have h : ((a ++ v : BitVec (32 + 32))).toNat = a.toNat * 2 ^ 32 + v.toNat := by
    rw [BitVec.toNat_append, ← Nat.shiftLeft_eq, ← Nat.shiftLeft_add_eq_or_of_lt v.isLt]
  exact h

@[simp] theorem loWord_toNat (x : Dword) : (loWord x).toNat = x.toNat % 2 ^ 32 := by
  simp [loWord]

@[simp] theorem hiWord_toNat (x : Dword) : (hiWord x).toNat = x.toNat / 2 ^ 32 := by
  have := x.isLt
  simp only [hiWord, BitVec.extractLsb'_toNat, Nat.shiftRight_eq_div_pow]
  omega

@[simp] theorem loWord_append (a v : Word) : loWord (a ++ v) = v := by
  have := v.isLt
  apply BitVec.eq_of_toNat_eq
  rw [loWord_toNat, append_toNat]
  omega

@[simp] theorem hiWord_append (a v : Word) : hiWord (a ++ v) = a := by
  have := v.isLt
  apply BitVec.eq_of_toNat_eq
  rw [hiWord_toNat, append_toNat]
  omega

/-- R56: a 64-bit value is its two words. -/
@[simp] theorem hiWord_append_loWord (x : Dword) : (hiWord x ++ loWord x : Dword) = x := by
  apply BitVec.eq_of_toNat_eq
  rw [append_toNat, hiWord_toNat, loWord_toNat]
  omega

/-- R57: `P = a * 2^32 + v`. -/
theorem pairInteger_toNat (pr : Pair) :
    (pairInteger pr).toNat = pr.addr.toNat * 2 ^ 32 + pr.val.toNat :=
  append_toNat _ _

@[simp] theorem splitInteger_addr (q : Dword) : (splitInteger q).addr = hiWord q := rfl

@[simp] theorem splitInteger_val (q : Dword) : (splitInteger q).val = loWord q := rfl

@[simp] theorem splitInteger_pairInteger (pr : Pair) : splitInteger (pairInteger pr) = pr := by
  cases pr with
  | mk a v => exact congrArg₂ Pair.mk (hiWord_append a v) (loWord_append a v)

@[simp] theorem pairInteger_splitInteger (q : Dword) : pairInteger (splitInteger q) = q :=
  hiWord_append_loWord q

/-- R11: the command nibble is `a >> 28`. -/
theorem commandNibble_toNat (a : Word) : (commandNibble a).toNat = a.toNat / 2 ^ 28 := by
  have := a.isLt
  simp only [commandNibble, BitVec.extractLsb'_toNat, Nat.shiftRight_eq_div_pow]
  omega

@[simp] theorem loWord_setLoWord (x : Dword) (w : Word) : loWord (setLoWord x w) = w := loWord_append _ _

@[simp] theorem hiWord_setLoWord (x : Dword) (w : Word) : hiWord (setLoWord x w) = hiWord x := hiWord_append _ _

@[simp] theorem hiWord_setHiWord (x : Dword) (w : Word) : hiWord (setHiWord x w) = w := hiWord_append _ _

@[simp] theorem loWord_setHiWord (x : Dword) (w : Word) : loWord (setHiWord x w) = loWord x := loWord_append _ _

end Sys2Proof.Machine
end

