-- ==== Sys2Proof/Laws/State.lean ====
section
/-!
SUPPORT. One lemma per field per update of State, each true by rfl, so that no proof unfolds a record update; and the
same for the parts of the state that have updates of their own.
-/

namespace Sys2Proof.Machine

/-! State.complete -/

@[simp] theorem State.complete_addrIn (s : State) (f : CommandFlags) : (s.complete f).addrIn = s.addrIn := rfl
@[simp] theorem State.complete_valIn (s : State) (f : CommandFlags) : (s.complete f).valIn = s.valIn := rfl
@[simp] theorem State.complete_addrOut (s : State) (f : CommandFlags) : (s.complete f).addrOut = s.addrOut := rfl
@[simp] theorem State.complete_valOut (s : State) (f : CommandFlags) : (s.complete f).valOut = s.valOut := rfl
@[simp] theorem State.complete_status (s : State) (f : CommandFlags) : (s.complete f).status = s.status.succeed f := rfl
@[simp] theorem State.complete_st (s : State) (f : CommandFlags) : (s.complete f).st = s.st := rfl
@[simp] theorem State.complete_rc4 (s : State) (f : CommandFlags) : (s.complete f).rc4 = s.rc4 := rfl
@[simp] theorem State.complete_key (s : State) (f : CommandFlags) : (s.complete f).key = s.key := rfl
@[simp] theorem State.complete_keyLen (s : State) (f : CommandFlags) : (s.complete f).keyLen = s.keyLen := rfl
@[simp] theorem State.complete_rc4Data (s : State) (f : CommandFlags) : (s.complete f).rc4Data = s.rc4Data := rfl
@[simp] theorem State.complete_mxBase (s : State) (f : CommandFlags) : (s.complete f).mxBase = s.mxBase := rfl
@[simp] theorem State.complete_mxExp (s : State) (f : CommandFlags) : (s.complete f).mxExp = s.mxExp := rfl
@[simp] theorem State.complete_mxMod (s : State) (f : CommandFlags) : (s.complete f).mxMod = s.mxMod := rfl
@[simp] theorem State.complete_mxRes (s : State) (f : CommandFlags) : (s.complete f).mxRes = s.mxRes := rfl
@[simp] theorem State.complete_rom (s : State) (f : CommandFlags) : (s.complete f).rom = s.rom := rfl
@[simp] theorem State.complete_pending (s : State) (f : CommandFlags) : (s.complete f).pending = s.pending := rfl
@[simp] theorem State.complete_response (s : State) (f : CommandFlags) : (s.complete f).response = s.response := rfl

/-! State.raiseError -/

@[simp] theorem State.raiseError_addrIn (s : State) (e : ErrorCode) : (s.raiseError e).addrIn = s.addrIn := rfl
@[simp] theorem State.raiseError_valIn (s : State) (e : ErrorCode) : (s.raiseError e).valIn = s.valIn := rfl
@[simp] theorem State.raiseError_addrOut (s : State) (e : ErrorCode) : (s.raiseError e).addrOut = s.addrOut := rfl
@[simp] theorem State.raiseError_valOut (s : State) (e : ErrorCode) : (s.raiseError e).valOut = s.valOut := rfl
@[simp] theorem State.raiseError_status (s : State) (e : ErrorCode) : (s.raiseError e).status = s.status.fail e := rfl
@[simp] theorem State.raiseError_st (s : State) (e : ErrorCode) : (s.raiseError e).st = s.st := rfl
@[simp] theorem State.raiseError_rc4 (s : State) (e : ErrorCode) : (s.raiseError e).rc4 = s.rc4 := rfl
@[simp] theorem State.raiseError_key (s : State) (e : ErrorCode) : (s.raiseError e).key = s.key := rfl
@[simp] theorem State.raiseError_keyLen (s : State) (e : ErrorCode) : (s.raiseError e).keyLen = s.keyLen := rfl
@[simp] theorem State.raiseError_rc4Data (s : State) (e : ErrorCode) : (s.raiseError e).rc4Data = s.rc4Data := rfl
@[simp] theorem State.raiseError_mxBase (s : State) (e : ErrorCode) : (s.raiseError e).mxBase = s.mxBase := rfl
@[simp] theorem State.raiseError_mxExp (s : State) (e : ErrorCode) : (s.raiseError e).mxExp = s.mxExp := rfl
@[simp] theorem State.raiseError_mxMod (s : State) (e : ErrorCode) : (s.raiseError e).mxMod = s.mxMod := rfl
@[simp] theorem State.raiseError_mxRes (s : State) (e : ErrorCode) : (s.raiseError e).mxRes = s.mxRes := rfl
@[simp] theorem State.raiseError_rom (s : State) (e : ErrorCode) : (s.raiseError e).rom = s.rom := rfl
@[simp] theorem State.raiseError_pending (s : State) (e : ErrorCode) : (s.raiseError e).pending = s.pending := rfl
@[simp] theorem State.raiseError_response (s : State) (e : ErrorCode) : (s.raiseError e).response = s.response := rfl

/-! State.writeStatus -/

@[simp] theorem State.writeStatus_addrIn (s : State) (w : Word) : (s.writeStatus w).addrIn = s.addrIn := rfl
@[simp] theorem State.writeStatus_valIn (s : State) (w : Word) : (s.writeStatus w).valIn = s.valIn := rfl
@[simp] theorem State.writeStatus_addrOut (s : State) (w : Word) : (s.writeStatus w).addrOut = s.addrOut := rfl
@[simp] theorem State.writeStatus_valOut (s : State) (w : Word) : (s.writeStatus w).valOut = s.valOut := rfl
@[simp] theorem State.writeStatus_status (s : State) (w : Word) : (s.writeStatus w).status = s.status.hostWrite w := rfl
@[simp] theorem State.writeStatus_st (s : State) (w : Word) : (s.writeStatus w).st = s.st := rfl
@[simp] theorem State.writeStatus_rc4 (s : State) (w : Word) : (s.writeStatus w).rc4 = s.rc4 := rfl
@[simp] theorem State.writeStatus_key (s : State) (w : Word) : (s.writeStatus w).key = s.key := rfl
@[simp] theorem State.writeStatus_keyLen (s : State) (w : Word) : (s.writeStatus w).keyLen = s.keyLen := rfl
@[simp] theorem State.writeStatus_rc4Data (s : State) (w : Word) : (s.writeStatus w).rc4Data = s.rc4Data := rfl
@[simp] theorem State.writeStatus_mxBase (s : State) (w : Word) : (s.writeStatus w).mxBase = s.mxBase := rfl
@[simp] theorem State.writeStatus_mxExp (s : State) (w : Word) : (s.writeStatus w).mxExp = s.mxExp := rfl
@[simp] theorem State.writeStatus_mxMod (s : State) (w : Word) : (s.writeStatus w).mxMod = s.mxMod := rfl
@[simp] theorem State.writeStatus_mxRes (s : State) (w : Word) : (s.writeStatus w).mxRes = s.mxRes := rfl
@[simp] theorem State.writeStatus_rom (s : State) (w : Word) : (s.writeStatus w).rom = s.rom := rfl
@[simp] theorem State.writeStatus_pending (s : State) (w : Word) : (s.writeStatus w).pending = s.pending := rfl
@[simp] theorem State.writeStatus_response (s : State) (w : Word) : (s.writeStatus w).response = s.response := rfl

/-! State.putPair -/

@[simp] theorem State.putPair_addrIn (s : State) (pr : Pair) : (s.putPair pr).addrIn = s.addrIn := rfl
@[simp] theorem State.putPair_valIn (s : State) (pr : Pair) : (s.putPair pr).valIn = s.valIn := rfl
@[simp] theorem State.putPair_addrOut (s : State) (pr : Pair) : (s.putPair pr).addrOut = pr.addr := rfl
@[simp] theorem State.putPair_valOut (s : State) (pr : Pair) : (s.putPair pr).valOut = pr.val := rfl
@[simp] theorem State.putPair_status (s : State) (pr : Pair) : (s.putPair pr).status = s.status := rfl
@[simp] theorem State.putPair_st (s : State) (pr : Pair) : (s.putPair pr).st = s.st := rfl
@[simp] theorem State.putPair_rc4 (s : State) (pr : Pair) : (s.putPair pr).rc4 = s.rc4 := rfl
@[simp] theorem State.putPair_key (s : State) (pr : Pair) : (s.putPair pr).key = s.key := rfl
@[simp] theorem State.putPair_keyLen (s : State) (pr : Pair) : (s.putPair pr).keyLen = s.keyLen := rfl
@[simp] theorem State.putPair_rc4Data (s : State) (pr : Pair) : (s.putPair pr).rc4Data = s.rc4Data := rfl
@[simp] theorem State.putPair_mxBase (s : State) (pr : Pair) : (s.putPair pr).mxBase = s.mxBase := rfl
@[simp] theorem State.putPair_mxExp (s : State) (pr : Pair) : (s.putPair pr).mxExp = s.mxExp := rfl
@[simp] theorem State.putPair_mxMod (s : State) (pr : Pair) : (s.putPair pr).mxMod = s.mxMod := rfl
@[simp] theorem State.putPair_mxRes (s : State) (pr : Pair) : (s.putPair pr).mxRes = s.mxRes := rfl
@[simp] theorem State.putPair_rom (s : State) (pr : Pair) : (s.putPair pr).rom = s.rom := rfl
@[simp] theorem State.putPair_pending (s : State) (pr : Pair) : (s.putPair pr).pending = s.pending := rfl
@[simp] theorem State.putPair_response (s : State) (pr : Pair) : (s.putPair pr).response = s.response := rfl

/-! State.putAutomaton -/

@[simp] theorem State.putAutomaton_addrIn (s : State) (a : Automaton) : (s.putAutomaton a).addrIn = s.addrIn := rfl
@[simp] theorem State.putAutomaton_valIn (s : State) (a : Automaton) : (s.putAutomaton a).valIn = s.valIn := rfl
@[simp] theorem State.putAutomaton_addrOut (s : State) (a : Automaton) : (s.putAutomaton a).addrOut = s.addrOut := rfl
@[simp] theorem State.putAutomaton_valOut (s : State) (a : Automaton) : (s.putAutomaton a).valOut = s.valOut := rfl
@[simp] theorem State.putAutomaton_status (s : State) (a : Automaton) : (s.putAutomaton a).status = s.status := rfl
@[simp] theorem State.putAutomaton_st (s : State) (a : Automaton) : (s.putAutomaton a).st = a := rfl
@[simp] theorem State.putAutomaton_rc4 (s : State) (a : Automaton) : (s.putAutomaton a).rc4 = s.rc4 := rfl
@[simp] theorem State.putAutomaton_key (s : State) (a : Automaton) : (s.putAutomaton a).key = s.key := rfl
@[simp] theorem State.putAutomaton_keyLen (s : State) (a : Automaton) : (s.putAutomaton a).keyLen = s.keyLen := rfl
@[simp] theorem State.putAutomaton_rc4Data (s : State) (a : Automaton) : (s.putAutomaton a).rc4Data = s.rc4Data := rfl
@[simp] theorem State.putAutomaton_mxBase (s : State) (a : Automaton) : (s.putAutomaton a).mxBase = s.mxBase := rfl
@[simp] theorem State.putAutomaton_mxExp (s : State) (a : Automaton) : (s.putAutomaton a).mxExp = s.mxExp := rfl
@[simp] theorem State.putAutomaton_mxMod (s : State) (a : Automaton) : (s.putAutomaton a).mxMod = s.mxMod := rfl
@[simp] theorem State.putAutomaton_mxRes (s : State) (a : Automaton) : (s.putAutomaton a).mxRes = s.mxRes := rfl
@[simp] theorem State.putAutomaton_rom (s : State) (a : Automaton) : (s.putAutomaton a).rom = s.rom := rfl
@[simp] theorem State.putAutomaton_pending (s : State) (a : Automaton) : (s.putAutomaton a).pending = s.pending := rfl
@[simp] theorem State.putAutomaton_response (s : State) (a : Automaton) : (s.putAutomaton a).response = s.response := rfl

/-! State.putSession -/

@[simp] theorem State.putSession_addrIn (s : State) (e : Session) : (s.putSession e).addrIn = s.addrIn := rfl
@[simp] theorem State.putSession_valIn (s : State) (e : Session) : (s.putSession e).valIn = s.valIn := rfl
@[simp] theorem State.putSession_addrOut (s : State) (e : Session) : (s.putSession e).addrOut = s.addrOut := rfl
@[simp] theorem State.putSession_valOut (s : State) (e : Session) : (s.putSession e).valOut = s.valOut := rfl
@[simp] theorem State.putSession_status (s : State) (e : Session) : (s.putSession e).status = s.status := rfl
@[simp] theorem State.putSession_st (s : State) (e : Session) : (s.putSession e).st = { s.st with sess := e } := rfl
@[simp] theorem State.putSession_rc4 (s : State) (e : Session) : (s.putSession e).rc4 = s.rc4 := rfl
@[simp] theorem State.putSession_key (s : State) (e : Session) : (s.putSession e).key = s.key := rfl
@[simp] theorem State.putSession_keyLen (s : State) (e : Session) : (s.putSession e).keyLen = s.keyLen := rfl
@[simp] theorem State.putSession_rc4Data (s : State) (e : Session) : (s.putSession e).rc4Data = s.rc4Data := rfl
@[simp] theorem State.putSession_mxBase (s : State) (e : Session) : (s.putSession e).mxBase = s.mxBase := rfl
@[simp] theorem State.putSession_mxExp (s : State) (e : Session) : (s.putSession e).mxExp = s.mxExp := rfl
@[simp] theorem State.putSession_mxMod (s : State) (e : Session) : (s.putSession e).mxMod = s.mxMod := rfl
@[simp] theorem State.putSession_mxRes (s : State) (e : Session) : (s.putSession e).mxRes = s.mxRes := rfl
@[simp] theorem State.putSession_rom (s : State) (e : Session) : (s.putSession e).rom = s.rom := rfl
@[simp] theorem State.putSession_pending (s : State) (e : Session) : (s.putSession e).pending = s.pending := rfl
@[simp] theorem State.putSession_response (s : State) (e : Session) : (s.putSession e).response = s.response := rfl

/-! State.putStream -/

@[simp] theorem State.putStream_addrIn (s : State) (k : Keystream) : (s.putStream k).addrIn = s.addrIn := rfl
@[simp] theorem State.putStream_valIn (s : State) (k : Keystream) : (s.putStream k).valIn = s.valIn := rfl
@[simp] theorem State.putStream_addrOut (s : State) (k : Keystream) : (s.putStream k).addrOut = s.addrOut := rfl
@[simp] theorem State.putStream_valOut (s : State) (k : Keystream) : (s.putStream k).valOut = s.valOut := rfl
@[simp] theorem State.putStream_status (s : State) (k : Keystream) : (s.putStream k).status = s.status := rfl
@[simp] theorem State.putStream_st (s : State) (k : Keystream) : (s.putStream k).st = s.st := rfl
@[simp] theorem State.putStream_rc4 (s : State) (k : Keystream) : (s.putStream k).rc4 = k := rfl
@[simp] theorem State.putStream_key (s : State) (k : Keystream) : (s.putStream k).key = s.key := rfl
@[simp] theorem State.putStream_keyLen (s : State) (k : Keystream) : (s.putStream k).keyLen = s.keyLen := rfl
@[simp] theorem State.putStream_rc4Data (s : State) (k : Keystream) : (s.putStream k).rc4Data = s.rc4Data := rfl
@[simp] theorem State.putStream_mxBase (s : State) (k : Keystream) : (s.putStream k).mxBase = s.mxBase := rfl
@[simp] theorem State.putStream_mxExp (s : State) (k : Keystream) : (s.putStream k).mxExp = s.mxExp := rfl
@[simp] theorem State.putStream_mxMod (s : State) (k : Keystream) : (s.putStream k).mxMod = s.mxMod := rfl
@[simp] theorem State.putStream_mxRes (s : State) (k : Keystream) : (s.putStream k).mxRes = s.mxRes := rfl
@[simp] theorem State.putStream_rom (s : State) (k : Keystream) : (s.putStream k).rom = s.rom := rfl
@[simp] theorem State.putStream_pending (s : State) (k : Keystream) : (s.putStream k).pending = s.pending := rfl
@[simp] theorem State.putStream_response (s : State) (k : Keystream) : (s.putStream k).response = s.response := rfl

/-! State.putData -/

@[simp] theorem State.putData_addrIn (s : State) (b : Byte) : (s.putData b).addrIn = s.addrIn := rfl
@[simp] theorem State.putData_valIn (s : State) (b : Byte) : (s.putData b).valIn = s.valIn := rfl
@[simp] theorem State.putData_addrOut (s : State) (b : Byte) : (s.putData b).addrOut = s.addrOut := rfl
@[simp] theorem State.putData_valOut (s : State) (b : Byte) : (s.putData b).valOut = s.valOut := rfl
@[simp] theorem State.putData_status (s : State) (b : Byte) : (s.putData b).status = s.status := rfl
@[simp] theorem State.putData_st (s : State) (b : Byte) : (s.putData b).st = s.st := rfl
@[simp] theorem State.putData_rc4 (s : State) (b : Byte) : (s.putData b).rc4 = s.rc4 := rfl
@[simp] theorem State.putData_key (s : State) (b : Byte) : (s.putData b).key = s.key := rfl
@[simp] theorem State.putData_keyLen (s : State) (b : Byte) : (s.putData b).keyLen = s.keyLen := rfl
@[simp] theorem State.putData_rc4Data (s : State) (b : Byte) : (s.putData b).rc4Data = b := rfl
@[simp] theorem State.putData_mxBase (s : State) (b : Byte) : (s.putData b).mxBase = s.mxBase := rfl
@[simp] theorem State.putData_mxExp (s : State) (b : Byte) : (s.putData b).mxExp = s.mxExp := rfl
@[simp] theorem State.putData_mxMod (s : State) (b : Byte) : (s.putData b).mxMod = s.mxMod := rfl
@[simp] theorem State.putData_mxRes (s : State) (b : Byte) : (s.putData b).mxRes = s.mxRes := rfl
@[simp] theorem State.putData_rom (s : State) (b : Byte) : (s.putData b).rom = s.rom := rfl
@[simp] theorem State.putData_pending (s : State) (b : Byte) : (s.putData b).pending = s.pending := rfl
@[simp] theorem State.putData_response (s : State) (b : Byte) : (s.putData b).response = s.response := rfl

/-! State.putResult -/

@[simp] theorem State.putResult_addrIn (s : State) (q : Dword) : (s.putResult q).addrIn = s.addrIn := rfl
@[simp] theorem State.putResult_valIn (s : State) (q : Dword) : (s.putResult q).valIn = s.valIn := rfl
@[simp] theorem State.putResult_addrOut (s : State) (q : Dword) : (s.putResult q).addrOut = s.addrOut := rfl
@[simp] theorem State.putResult_valOut (s : State) (q : Dword) : (s.putResult q).valOut = s.valOut := rfl
@[simp] theorem State.putResult_status (s : State) (q : Dword) : (s.putResult q).status = s.status := rfl
@[simp] theorem State.putResult_st (s : State) (q : Dword) : (s.putResult q).st = s.st := rfl
@[simp] theorem State.putResult_rc4 (s : State) (q : Dword) : (s.putResult q).rc4 = s.rc4 := rfl
@[simp] theorem State.putResult_key (s : State) (q : Dword) : (s.putResult q).key = s.key := rfl
@[simp] theorem State.putResult_keyLen (s : State) (q : Dword) : (s.putResult q).keyLen = s.keyLen := rfl
@[simp] theorem State.putResult_rc4Data (s : State) (q : Dword) : (s.putResult q).rc4Data = s.rc4Data := rfl
@[simp] theorem State.putResult_mxBase (s : State) (q : Dword) : (s.putResult q).mxBase = s.mxBase := rfl
@[simp] theorem State.putResult_mxExp (s : State) (q : Dword) : (s.putResult q).mxExp = s.mxExp := rfl
@[simp] theorem State.putResult_mxMod (s : State) (q : Dword) : (s.putResult q).mxMod = s.mxMod := rfl
@[simp] theorem State.putResult_mxRes (s : State) (q : Dword) : (s.putResult q).mxRes = q := rfl
@[simp] theorem State.putResult_rom (s : State) (q : Dword) : (s.putResult q).rom = s.rom := rfl
@[simp] theorem State.putResult_pending (s : State) (q : Dword) : (s.putResult q).pending = s.pending := rfl
@[simp] theorem State.putResult_response (s : State) (q : Dword) : (s.putResult q).response = s.response := rfl

/-! State.respond -/

@[simp] theorem State.respond_addrIn (s : State) (r : Response) : (s.respond r).addrIn = s.addrIn := rfl
@[simp] theorem State.respond_valIn (s : State) (r : Response) : (s.respond r).valIn = s.valIn := rfl
@[simp] theorem State.respond_addrOut (s : State) (r : Response) : (s.respond r).addrOut = s.addrOut := rfl
@[simp] theorem State.respond_valOut (s : State) (r : Response) : (s.respond r).valOut = s.valOut := rfl
@[simp] theorem State.respond_status (s : State) (r : Response) : (s.respond r).status = s.status := rfl
@[simp] theorem State.respond_st (s : State) (r : Response) : (s.respond r).st = s.st := rfl
@[simp] theorem State.respond_rc4 (s : State) (r : Response) : (s.respond r).rc4 = s.rc4 := rfl
@[simp] theorem State.respond_key (s : State) (r : Response) : (s.respond r).key = s.key := rfl
@[simp] theorem State.respond_keyLen (s : State) (r : Response) : (s.respond r).keyLen = s.keyLen := rfl
@[simp] theorem State.respond_rc4Data (s : State) (r : Response) : (s.respond r).rc4Data = s.rc4Data := rfl
@[simp] theorem State.respond_mxBase (s : State) (r : Response) : (s.respond r).mxBase = s.mxBase := rfl
@[simp] theorem State.respond_mxExp (s : State) (r : Response) : (s.respond r).mxExp = s.mxExp := rfl
@[simp] theorem State.respond_mxMod (s : State) (r : Response) : (s.respond r).mxMod = s.mxMod := rfl
@[simp] theorem State.respond_mxRes (s : State) (r : Response) : (s.respond r).mxRes = s.mxRes := rfl
@[simp] theorem State.respond_rom (s : State) (r : Response) : (s.respond r).rom = s.rom := rfl
@[simp] theorem State.respond_pending (s : State) (r : Response) : (s.respond r).pending = s.pending := rfl
@[simp] theorem State.respond_response (s : State) (r : Response) : (s.respond r).response = r := rfl

/-! State.withPending -/

@[simp] theorem State.withPending_addrIn (s : State) (es : List HostEvent) : (s.withPending es).addrIn = s.addrIn := rfl
@[simp] theorem State.withPending_valIn (s : State) (es : List HostEvent) : (s.withPending es).valIn = s.valIn := rfl
@[simp] theorem State.withPending_addrOut (s : State) (es : List HostEvent) : (s.withPending es).addrOut = s.addrOut := rfl
@[simp] theorem State.withPending_valOut (s : State) (es : List HostEvent) : (s.withPending es).valOut = s.valOut := rfl
@[simp] theorem State.withPending_status (s : State) (es : List HostEvent) : (s.withPending es).status = s.status := rfl
@[simp] theorem State.withPending_st (s : State) (es : List HostEvent) : (s.withPending es).st = s.st := rfl
@[simp] theorem State.withPending_rc4 (s : State) (es : List HostEvent) : (s.withPending es).rc4 = s.rc4 := rfl
@[simp] theorem State.withPending_key (s : State) (es : List HostEvent) : (s.withPending es).key = s.key := rfl
@[simp] theorem State.withPending_keyLen (s : State) (es : List HostEvent) : (s.withPending es).keyLen = s.keyLen := rfl
@[simp] theorem State.withPending_rc4Data (s : State) (es : List HostEvent) : (s.withPending es).rc4Data = s.rc4Data := rfl
@[simp] theorem State.withPending_mxBase (s : State) (es : List HostEvent) : (s.withPending es).mxBase = s.mxBase := rfl
@[simp] theorem State.withPending_mxExp (s : State) (es : List HostEvent) : (s.withPending es).mxExp = s.mxExp := rfl
@[simp] theorem State.withPending_mxMod (s : State) (es : List HostEvent) : (s.withPending es).mxMod = s.mxMod := rfl
@[simp] theorem State.withPending_mxRes (s : State) (es : List HostEvent) : (s.withPending es).mxRes = s.mxRes := rfl
@[simp] theorem State.withPending_rom (s : State) (es : List HostEvent) : (s.withPending es).rom = s.rom := rfl
@[simp] theorem State.withPending_pending (s : State) (es : List HostEvent) : (s.withPending es).pending = es := rfl
@[simp] theorem State.withPending_response (s : State) (es : List HostEvent) : (s.withPending es).response = s.response := rfl

/-! State.finishPair -/

@[simp] theorem State.finishPair_addrIn (s : State) (r : PairResult) : (s.finishPair r).addrIn = s.addrIn := rfl
@[simp] theorem State.finishPair_valIn (s : State) (r : PairResult) : (s.finishPair r).valIn = s.valIn := rfl
@[simp] theorem State.finishPair_addrOut (s : State) (r : PairResult) : (s.finishPair r).addrOut = r.out.addr := rfl
@[simp] theorem State.finishPair_valOut (s : State) (r : PairResult) : (s.finishPair r).valOut = r.out.val := rfl
@[simp] theorem State.finishPair_status (s : State) (r : PairResult) : (s.finishPair r).status = s.status.succeed r.flags := rfl
@[simp] theorem State.finishPair_st (s : State) (r : PairResult) : (s.finishPair r).st = r.st := rfl
@[simp] theorem State.finishPair_rc4 (s : State) (r : PairResult) : (s.finishPair r).rc4 = s.rc4 := rfl
@[simp] theorem State.finishPair_key (s : State) (r : PairResult) : (s.finishPair r).key = s.key := rfl
@[simp] theorem State.finishPair_keyLen (s : State) (r : PairResult) : (s.finishPair r).keyLen = s.keyLen := rfl
@[simp] theorem State.finishPair_rc4Data (s : State) (r : PairResult) : (s.finishPair r).rc4Data = s.rc4Data := rfl
@[simp] theorem State.finishPair_mxBase (s : State) (r : PairResult) : (s.finishPair r).mxBase = s.mxBase := rfl
@[simp] theorem State.finishPair_mxExp (s : State) (r : PairResult) : (s.finishPair r).mxExp = s.mxExp := rfl
@[simp] theorem State.finishPair_mxMod (s : State) (r : PairResult) : (s.finishPair r).mxMod = s.mxMod := rfl
@[simp] theorem State.finishPair_mxRes (s : State) (r : PairResult) : (s.finishPair r).mxRes = s.mxRes := rfl
@[simp] theorem State.finishPair_rom (s : State) (r : PairResult) : (s.finishPair r).rom = s.rom := rfl
@[simp] theorem State.finishPair_pending (s : State) (r : PairResult) : (s.finishPair r).pending = s.pending := rfl
@[simp] theorem State.finishPair_response (s : State) (r : PairResult) : (s.finishPair r).response = s.response := rfl

/-! State.hardReset -/

@[simp] theorem State.hardReset_addrIn (s : State) : s.hardReset.addrIn = State.reset.addrIn := rfl
@[simp] theorem State.hardReset_valIn (s : State) : s.hardReset.valIn = State.reset.valIn := rfl
@[simp] theorem State.hardReset_addrOut (s : State) : s.hardReset.addrOut = State.reset.addrOut := rfl
@[simp] theorem State.hardReset_valOut (s : State) : s.hardReset.valOut = State.reset.valOut := rfl
@[simp] theorem State.hardReset_status (s : State) : s.hardReset.status = State.reset.status := rfl
@[simp] theorem State.hardReset_st (s : State) : s.hardReset.st = State.reset.st := rfl
@[simp] theorem State.hardReset_rc4 (s : State) : s.hardReset.rc4 = State.reset.rc4 := rfl
@[simp] theorem State.hardReset_key (s : State) : s.hardReset.key = State.reset.key := rfl
@[simp] theorem State.hardReset_keyLen (s : State) : s.hardReset.keyLen = State.reset.keyLen := rfl
@[simp] theorem State.hardReset_rc4Data (s : State) : s.hardReset.rc4Data = State.reset.rc4Data := rfl
@[simp] theorem State.hardReset_mxBase (s : State) : s.hardReset.mxBase = State.reset.mxBase := rfl
@[simp] theorem State.hardReset_mxExp (s : State) : s.hardReset.mxExp = State.reset.mxExp := rfl
@[simp] theorem State.hardReset_mxMod (s : State) : s.hardReset.mxMod = State.reset.mxMod := rfl
@[simp] theorem State.hardReset_mxRes (s : State) : s.hardReset.mxRes = State.reset.mxRes := rfl
@[simp] theorem State.hardReset_rom (s : State) : s.hardReset.rom = s.rom := rfl
@[simp] theorem State.hardReset_pending (s : State) : s.hardReset.pending = s.pending := rfl
@[simp] theorem State.hardReset_response (s : State) : s.hardReset.response = State.reset.response := rfl

/-! State.reset (R36) -/

@[simp] theorem State.reset_addrIn : State.reset.addrIn = 0#32 := rfl
@[simp] theorem State.reset_valIn : State.reset.valIn = 0#32 := rfl
@[simp] theorem State.reset_addrOut : State.reset.addrOut = 0#32 := rfl
@[simp] theorem State.reset_valOut : State.reset.valOut = 0#32 := rfl
@[simp] theorem State.reset_status : State.reset.status = ⟨.ok, ⟨false, false, false⟩, false⟩ := rfl
@[simp] theorem State.reset_st : State.reset.st = ⟨.none, false, 0#2, Config.hardware.params.initialSession⟩ := rfl
@[simp] theorem State.reset_rc4 : State.reset.rc4 = ⟨identityTable, 0#8, 0#8, false⟩ := rfl
@[simp] theorem State.reset_key : State.reset.key = Vector.replicate 256 0#8 := rfl
@[simp] theorem State.reset_keyLen : State.reset.keyLen = 0#9 := rfl
@[simp] theorem State.reset_rc4Data : State.reset.rc4Data = 0#8 := rfl
@[simp] theorem State.reset_mxBase : State.reset.mxBase = 0#64 := rfl
@[simp] theorem State.reset_mxExp : State.reset.mxExp = 0#64 := rfl
@[simp] theorem State.reset_mxMod : State.reset.mxMod = 0#64 := rfl
@[simp] theorem State.reset_mxRes : State.reset.mxRes = 0#64 := rfl
@[simp] theorem State.reset_rom : State.reset.rom = romContents Config.hardware.params := rfl
@[simp] theorem State.reset_pending : State.reset.pending = [] := rfl
@[simp] theorem State.reset_response : State.reset.response = .none := rfl

/-! State.pairIn under the updates that keep the operand pair -/

@[simp] theorem State.complete_pairIn (s : State) (f : CommandFlags) : (s.complete f).pairIn = s.pairIn := rfl
@[simp] theorem State.raiseError_pairIn (s : State) (e : ErrorCode) : (s.raiseError e).pairIn = s.pairIn := rfl
@[simp] theorem State.writeStatus_pairIn (s : State) (w : Word) : (s.writeStatus w).pairIn = s.pairIn := rfl
@[simp] theorem State.putPair_pairIn (s : State) (pr : Pair) : (s.putPair pr).pairIn = s.pairIn := rfl
@[simp] theorem State.putAutomaton_pairIn (s : State) (a : Automaton) : (s.putAutomaton a).pairIn = s.pairIn := rfl
@[simp] theorem State.putSession_pairIn (s : State) (e : Session) : (s.putSession e).pairIn = s.pairIn := rfl
@[simp] theorem State.putStream_pairIn (s : State) (k : Keystream) : (s.putStream k).pairIn = s.pairIn := rfl
@[simp] theorem State.putData_pairIn (s : State) (b : Byte) : (s.putData b).pairIn = s.pairIn := rfl
@[simp] theorem State.putResult_pairIn (s : State) (q : Dword) : (s.putResult q).pairIn = s.pairIn := rfl
@[simp] theorem State.respond_pairIn (s : State) (r : Response) : (s.respond r).pairIn = s.pairIn := rfl
@[simp] theorem State.withPending_pairIn (s : State) (es : List HostEvent) : (s.withPending es).pairIn = s.pairIn := rfl
@[simp] theorem State.finishPair_pairIn (s : State) (r : PairResult) : (s.finishPair r).pairIn = s.pairIn := rfl
@[simp] theorem State.pairIn_addr (s : State) : s.pairIn.addr = s.addrIn := rfl
@[simp] theorem State.pairIn_val (s : State) : s.pairIn.val = s.valIn := rfl

/-! Status -/

@[simp] theorem Status.succeed_err (st : Status) (f : CommandFlags) : (st.succeed f).err = .ok := rfl
@[simp] theorem Status.succeed_flags (st : Status) (f : CommandFlags) : (st.succeed f).flags = f := rfl
@[simp] theorem Status.succeed_fault (st : Status) (f : CommandFlags) : (st.succeed f).fault = st.fault := rfl
@[simp] theorem Status.fail_err (st : Status) (e : ErrorCode) : (st.fail e).err = e := rfl
@[simp] theorem Status.fail_flags (st : Status) (e : ErrorCode) : (st.fail e).flags = ⟨false, false, false⟩ := rfl
@[simp] theorem Status.fail_fault (st : Status) (e : ErrorCode) : (st.fail e).fault = true := rfl

@[simp] theorem Status.hostWrite_err (st : Status) (w : Word) : (st.hostWrite w).err = st.err := by
  unfold Status.hostWrite; split <;> rfl

@[simp] theorem Status.hostWrite_flags (st : Status) (w : Word) : (st.hostWrite w).flags = st.flags := by
  unfold Status.hostWrite; split <;> rfl

/-- R54: bit 31 of the written word clears FAULT. -/
@[simp] theorem Status.hostWrite_fault (st : Status) (w : Word) :
    (st.hostWrite w).fault = (!w.getLsbD 31 && st.fault) := by
  unfold Status.hostWrite; split <;> simp_all

/-! Automaton -/

@[simp] theorem activate_scheme (p : Config.Params) (pr : Pair) (a : Automaton) :
    (activate p pr a).scheme = .modular := rfl
@[simp] theorem activate_plain (p : Config.Params) (pr : Pair) (a : Automaton) : (activate p pr a).plain = false := rfl
@[simp] theorem activate_wr (p : Config.Params) (pr : Pair) (a : Automaton) : (activate p pr a).wr = a.wr := rfl
@[simp] theorem activate_sess (p : Config.Params) (pr : Pair) (a : Automaton) :
    (activate p pr a).sess = p.derive a.sess pr.addr pr.val := rfl

end Sys2Proof.Machine
end

