-- ==== Sys2Proof/Laws/Modular.lean ====
section
/-!
SUPPORT. The engine's product and one turn of its loop in exact arithmetic (R141), and the two outcomes of MODEXP.
-/

namespace Sys2Proof.Machine

/-- R141: the 128-bit product loses nothing. -/
theorem mulMod_toNat (a b m : Dword) (hm : m ≠ 0#64) : (mulMod a b m).toNat = a.toNat * b.toNat % m.toNat := by
  have hb := b.isLt
  have hp : a.toNat * b.toNat < 2 ^ 128 := by
    calc a.toNat * b.toNat < 2 ^ 64 * 2 ^ 64 :=
          Nat.mul_lt_mul'' a.isLt b.isLt
      _ = 2 ^ 128 := by norm_num
  have hm0 : 0 < m.toNat := Nat.pos_of_ne_zero fun h => hm (BitVec.eq_of_toNat_eq h)
  have ext : ∀ x : Dword, (x.setWidth 128).toNat = x.toNat := fun x => by
    rw [BitVec.toNat_setWidth, Nat.mod_eq_of_lt (lt_trans x.isLt (by norm_num))]
  unfold mulMod
  rw [BitVec.toNat_setWidth, BitVec.toNat_umod, BitVec.toNat_mul, ext, ext, ext, Nat.mod_eq_of_lt hp]
  exact Nat.mod_eq_of_lt (lt_trans (Nat.mod_lt _ hm0) m.isLt)

theorem mulMod_lt (a b m : Dword) (hm : m ≠ 0#64) : mulMod a b m < m := by
  rw [BitVec.lt_def, mulMod_toNat a b m hm]
  exact Nat.mod_lt _ (Nat.pos_of_ne_zero fun h => hm (BitVec.eq_of_toNat_eq h))

theorem modExpTurns_zero (e m : Dword) (k : Nat) (r x : Dword) : modExpTurns e m 0 k r x = r := rfl

/-- One turn of ModExp's loop (R141). -/
theorem modExpTurns_succ (e m : Dword) (n k : Nat) (r x : Dword) :
    modExpTurns e m (n + 1) k r x =
      modExpTurns e m n (k + 1) (if e.getLsbD k then mulMod r x m else r) (mulMod x x m) := rfl

/-- R143: a pair integer at or above the modulus passes through, so with modulus 0 every one does. -/
theorem guardedExp_of_le {q e n : Dword} (h : n ≤ q) : guardedExp q e n = q :=
  if_neg (BitVec.not_lt.mpr h)

theorem guardedExp_of_lt {q e n : Dword} (h : q < n) : guardedExp q e n = modExp q e n :=
  if_pos h

/-- What MODEXP can do (R142). -/
theorem execModexp_cases {s t : State} (h : execModexp s = .next t) :
    (s.mxMod ≠ 0#64 ∧
      t = (s.putResult (modExp s.mxBase s.mxExp s.mxMod)).complete ⟨false, false, false⟩) ∨
    (s.mxMod = 0#64 ∧ t = s.raiseError .modZero) := by
  unfold execModexp at h
  split at h
  · exact .inr ⟨beq_iff_eq.mp ‹_›, by injection h with h; exact h.symm⟩
  · exact .inl ⟨fun e => absurd (beq_iff_eq.mpr e) ‹_›, by injection h with h; exact h.symm⟩

end Sys2Proof.Machine
end

