-- ==== Sys2Proof/Laws/Automaton.lean ====
section
/-!
SUPPORT. What the classification functions and each clause of the automaton can do (R171 to R181).
-/

namespace Sys2Proof.Machine

/-- R173: a code has one word or two. -/
theorem codeLines_eq (k : Config.Constants) (a : Word) : codeLines k a = 1 ∨ codeLines k a = 2 := by
  unfold codeLines
  dsimp only
  split_ifs <;> simp

/-- R26: `Lines(a) - 1` is 0 or 1. -/
theorem wordsLeft_eq (k : Config.Constants) (a : Word) : wordsLeft k a = 0#2 ∨ wordsLeft k a = 1#2 := by
  unfold wordsLeft
  rcases codeLines_eq k a with h | h <;> simp [h]

/-- R172 with R171: under the given constants an activation address has reserved bits set, so it is classified as
encrypted. -/
theorem isReserved_of_isAct {a : Word} (h : isAct Config.givenConstants a = true) :
    isReserved Config.givenConstants a = true := by
  have h25 : (a &&& 0xFFFFFFFE#32).getLsbD 25 = (0xBEEFC0DE#32).getLsbD 25 := by
    rw [show a &&& 0xFFFFFFFE#32 = 0xBEEFC0DE#32 by simpa [isAct, Config.givenConstants] using h]
  have ha : a.getLsbD 25 = true := by
    rw [BitVec.getLsbD_and, show (0xFFFFFFFE#32).getLsbD 25 = true by decide,
      show (0xBEEFC0DE#32).getLsbD 25 = true by decide, Bool.and_true] at h25
    exact h25
  simp only [isReserved, bne_iff_ne, ne_eq]
  intro h0
  have h4 : (a &&& 0x0E000000#32).getLsbD 25 = (0#32).getLsbD 25 := congrArg (·.getLsbD 25) h0
  rw [BitVec.getLsbD_and, ha, show (0x0E000000#32).getLsbD 25 = true by decide] at h4
  simp at h4

/-- R181: under the given constants the sentinel is no activation address. -/
theorem isAct_endSentinel : isAct Config.givenConstants Config.givenConstants.endSentinel = false := by decide

@[simp] theorem clauseA_out (p : Config.Params) (pr : Pair) (st : Automaton) : (clauseA p pr st).out = pr := rfl
@[simp] theorem clauseA_flags (p : Config.Params) (pr : Pair) (st : Automaton) :
    (clauseA p pr st).flags = ⟨true, true, false⟩ := rfl
@[simp] theorem clauseB_out (k : Config.Constants) (rom : Rom) (pr : Pair) (st : Automaton) : (clauseB k rom pr st).out = tableDecrypt rom pr := rfl
@[simp] theorem clauseB_flags (k : Config.Constants) (rom : Rom) (pr : Pair) (st : Automaton) :
    (clauseB k rom pr st).flags = ⟨false, false, false⟩ := rfl
@[simp] theorem clauseC_out (k : Config.Constants) (pr : Pair) (st : Automaton) : (clauseC k pr st).out = pr := rfl
@[simp] theorem clauseC_flags (k : Config.Constants) (pr : Pair) (st : Automaton) : (clauseC k pr st).flags = ⟨false, false, false⟩ := rfl
@[simp] theorem clauseD_out (rom : Rom) (pr : Pair) (st : Automaton) :
    (clauseD rom pr st).out = if st.plain then pr else tableDecrypt rom pr := rfl
@[simp] theorem clauseD_flags (rom : Rom) (pr : Pair) (st : Automaton) :
    (clauseD rom pr st).flags = ⟨false, false, false⟩ := rfl

@[simp] theorem clauseE_out (k : Config.Constants) (p : Config.Params) (pr : Pair) (st : Automaton) :
    (clauseE k p pr st).out = mcDecrypt p st.sess pr := by
  unfold clauseE; dsimp only; split_ifs <;> rfl

/-- Clause E keeps the scheme, the plaintext flag and the session (R180). -/
theorem clauseE_keeps (k : Config.Constants) (p : Config.Params) (pr : Pair) (st : Automaton) :
    (clauseE k p pr st).st.scheme = st.scheme ∧ (clauseE k p pr st).st.plain = st.plain ∧
    (clauseE k p pr st).st.sess = st.sess := by
  unfold clauseE; dsimp only; split_ifs <;> exact ⟨rfl, rfl, rfl⟩

/-- What clause F can do (R181). -/
theorem clauseF_cases (k : Config.Constants) (p : Config.Params) (r : PairResult) :
    (isAct k r.out.addr = true ∧
      clauseF k p r = ⟨r.out, { activate p r.out r.st with wr := 1#2 }, { r.flags with act := true }⟩) ∨
    (isAct k r.out.addr = false ∧ clauseF k p r = r) := by
  unfold clauseF
  split
  · exact .inl ⟨‹_›, rfl⟩
  · exact .inr ⟨Bool.eq_false_iff.mpr ‹_›, rfl⟩

/-- Clause F never changes the output pair (R181). -/
@[simp] theorem clauseF_out (k : Config.Constants) (p : Config.Params) (r : PairResult) : (clauseF k p r).out = r.out := by
  rcases clauseF_cases k p r with ⟨_, h⟩ | ⟨_, h⟩ <;> rw [h]

/-- The clause that runs (R175), as R189 orders the tests. -/
theorem autoDecrypt_cases (k : Config.Constants) (p : Config.Params) (rom : Rom) (pr : Pair) (st : Automaton) :
    (st.scheme = .modular ∧ autoDecrypt k p rom pr st = clauseF k p (clauseE k p pr st)) ∨
    (st.scheme ≠ .modular ∧ st.wr = 0#2 ∧ isReserved k pr.addr = true ∧ isAct k pr.addr = true ∧
      autoDecrypt k p rom pr st = clauseA p pr st) ∨
    (st.scheme ≠ .modular ∧ st.wr = 0#2 ∧ isReserved k pr.addr = true ∧ isAct k pr.addr = false ∧
      autoDecrypt k p rom pr st = clauseF k p (clauseB k rom pr st)) ∨
    (st.scheme ≠ .modular ∧ st.wr = 0#2 ∧ isReserved k pr.addr = false ∧
      autoDecrypt k p rom pr st = clauseF k p (clauseC k pr st)) ∨
    (st.scheme ≠ .modular ∧ st.wr ≠ 0#2 ∧ autoDecrypt k p rom pr st = clauseF k p (clauseD rom pr st)) := by
  unfold autoDecrypt
  by_cases h1 : st.scheme = .modular
  · simp [h1]
  by_cases h2 : st.wr = 0#2
  · by_cases h3 : isReserved k pr.addr = true
    · by_cases h4 : isAct k pr.addr = true <;> simp [h1, h2, h3, h4]
    · simp [h1, h2, h3]
  · simp [h1, h2]

/-- What PROC_ENCRYPT's transform can do (R187). -/
theorem schemeEncrypt_out (k : Config.Constants) (p : Config.Params) (rom : Rom) (pr : Pair) (st : Automaton) :
    (schemeEncrypt k p rom pr st).out =
      if st.scheme = .modular then mcEncrypt p st.sess pr else tableEncrypt rom pr := by
  unfold schemeEncrypt; simp only [beq_iff_eq]; split_ifs <;> rfl

theorem schemeEncrypt_st (k : Config.Constants) (p : Config.Params) (rom : Rom) (pr : Pair) (st : Automaton) :
    (schemeEncrypt k p rom pr st).st = if isAct k pr.addr then activate p pr st else st := by
  unfold schemeEncrypt; dsimp only; split_ifs <;> rfl

theorem schemeEncrypt_flags (k : Config.Constants) (p : Config.Params) (rom : Rom) (pr : Pair) (st : Automaton) :
    (schemeEncrypt k p rom pr st).flags = ⟨isAct k pr.addr, false, false⟩ := by
  unfold schemeEncrypt; dsimp only; split <;> simp_all

/-- What PROC_DECRYPT's transform can do (R188). -/
theorem schemeDecrypt_out (k : Config.Constants) (p : Config.Params) (rom : Rom) (pr : Pair) (st : Automaton) :
    (schemeDecrypt k p rom pr st).out =
      if st.scheme = .modular then mcDecrypt p st.sess pr else tableDecrypt rom pr := by
  unfold schemeDecrypt; simp only [beq_iff_eq]; split_ifs <;> rfl

theorem schemeDecrypt_st (k : Config.Constants) (p : Config.Params) (rom : Rom) (pr : Pair) (st : Automaton) :
    (schemeDecrypt k p rom pr st).st =
      if isAct k (schemeDecrypt k p rom pr st).out.addr then activate p (schemeDecrypt k p rom pr st).out st else st := by
  rw [schemeDecrypt_out]; unfold schemeDecrypt; simp only [beq_iff_eq]; split_ifs <;> rfl

theorem schemeDecrypt_flags (k : Config.Constants) (p : Config.Params) (rom : Rom) (pr : Pair) (st : Automaton) :
    (schemeDecrypt k p rom pr st).flags = ⟨isAct k (schemeDecrypt k p rom pr st).out.addr, false, false⟩ := by
  rw [schemeDecrypt_out]; unfold schemeDecrypt; simp only [beq_iff_eq]
  by_cases h : isAct k (if st.scheme = .modular then mcDecrypt p st.sess pr else tableDecrypt rom pr).addr = true
  · rw [if_pos h, h]
  · rw [if_neg h, Bool.eq_false_iff.mpr h]

end Sys2Proof.Machine
end

