-- ==== Sys2Proof/Laws/ByteTable.lean ====
section
/-!
SUPPORT. Reading a 256-entry table after a write and after a swap, and what that means for a permutation.
-/

namespace Sys2Proof.Machine

/-- A read after a write: the byte written at its own index, the old byte elsewhere. -/
theorem entry_setEntry (t : Vector Byte 256) (k b x : Byte) :
    entry (setEntry t k b) x = if x = k then b else entry t x := by
  unfold entry setEntry
  rw [Vector.getElem_set]
  by_cases h : x = k
  · simp [h]
  · rw [if_neg h, if_neg]
    exact fun e => h (BitVec.eq_of_toNat_eq e.symm)

@[simp] theorem entry_setEntry_self (t : Vector Byte 256) (k b : Byte) : entry (setEntry t k b) k = b := by
  simp [entry_setEntry]

/-- What a swap can do (R101, R102): the two entries change places, every other entry stays. -/
theorem entry_swapEntries (t : Vector Byte 256) (a b x : Byte) :
    entry (swapEntries t a b) x = if x = a then entry t b else if x = b then entry t a else entry t x := by
  simp only [swapEntries, entry_setEntry]
  by_cases hb : x = b
  · by_cases ha : x = a
    · rw [if_pos hb, if_pos ha, ← ha, ← hb]
    · rw [if_pos hb, if_neg ha, if_pos hb]
  · rw [if_neg hb, if_neg hb]

/-- A swap of an entry with itself changes nothing (R104). -/
theorem entry_swapEntries_self (t : Vector Byte 256) (a x : Byte) : entry (swapEntries t a a) x = entry t x := by
  rw [entry_swapEntries]; split <;> simp_all

/-- Swapping is a renaming of the indices. -/
theorem entry_swapEntries_eq_swap (t : Vector Byte 256) (a b x : Byte) :
    entry (swapEntries t a b) x = entry t (Equiv.swap a b x) := by
  rw [entry_swapEntries, Equiv.swap_apply_def]
  split_ifs <;> simp_all

theorem entry_identityTable (k : Byte) : entry identityTable k = k := by
  simp [entry, identityTable]

theorem vector_ext_entry {s t : Vector Byte 256} (h : ∀ k, entry s k = entry t k) : s = t := by
  ext i hi
  have := h (BitVec.ofNat 8 i)
  simp only [entry, BitVec.toNat_ofNat, Nat.mod_eq_of_lt hi] at this
  rw [this]

/-- Reset and the start of a key schedule hold a permutation (R28). -/
theorem isPermutation_identityTable : IsPermutation identityTable := by
  unfold IsPermutation
  rw [show entry identityTable = id from funext entry_identityTable]
  exact Function.bijective_id

/-- A swap keeps a permutation (R28). -/
theorem IsPermutation.swapEntries {t : Vector Byte 256} (h : IsPermutation t) (a b : Byte) :
    IsPermutation (swapEntries t a b) := by
  unfold IsPermutation at *
  rw [show entry (Machine.swapEntries t a b) = entry t ∘ Equiv.swap a b from
    funext (entry_swapEntries_eq_swap t a b)]
  exact h.comp (Equiv.swap a b).bijective

end Sys2Proof.Machine
end

