-- ==== Sys2Proof/Laws/Keystream.lean ====
section
/-!
SUPPORT. What the key schedule and the output step can do, and the two outcomes of RC4_INIT and of RC4_BYTE.
-/

namespace Sys2Proof.Machine

/-- R28 through the key schedule: every turn of KSA leaves a permutation. -/
theorem ksaTurns_permutation (key : Vector Byte 256) (len n : Nat) :
    IsPermutation (ksaTurns key len n).1 := by
  induction n with
  | zero => exact isPermutation_identityTable
  | succ n ih => exact ih.swapEntries _ _

/-- KSA reads only the cyclic extension of the key to 256 bytes (R101). -/
theorem ksaTurns_congr {key key' : Vector Byte 256} {len len' : Nat} (n : Nat)
    (h : ∀ i, i < n → entry key (BitVec.ofNat 8 (i % len)) = entry key' (BitVec.ofNat 8 (i % len'))) :
    ksaTurns key len n = ksaTurns key' len' n := by
  induction n with
  | zero => rfl
  | succ n ih =>
    simp only [ksaTurns, ksaTurn]
    rw [ih fun i hi => h i (Nat.lt_succ_of_lt hi), h n (Nat.lt_succ_self n)]

/-- KSA is its 256 turns (R101). Cite this rather than unfold: the turns then stay folded. -/
theorem keySchedule_eq (key : Vector Byte 256) (len : Nat) : keySchedule key len = (ksaTurns key len 256).1 := by
  unfold keySchedule
  rfl

/-- R28 through a whole key schedule. -/
theorem keySchedule_permutation (key : Vector Byte 256) (len : Nat) : IsPermutation (keySchedule key len) := by
  rw [keySchedule_eq]
  exact ksaTurns_permutation key len 256

/-- Two keys with the same cyclic extension have the same schedule (R103). -/
theorem keySchedule_congr {key key' : Vector Byte 256} {len len' : Nat}
    (h : ∀ i, i < 256 → entry key (BitVec.ofNat 8 (i % len)) = entry key' (BitVec.ofNat 8 (i % len'))) :
    keySchedule key len = keySchedule key' len' := by
  rw [keySchedule_eq, keySchedule_eq, ksaTurns_congr 256 h]

@[simp] theorem prgaAdvance_i (k : Keystream) : (prgaAdvance k).i = k.i + 1#8 := rfl
@[simp] theorem prgaAdvance_j (k : Keystream) : (prgaAdvance k).j = k.j + entry k.S (k.i + 1#8) := rfl
@[simp] theorem prgaAdvance_valid (k : Keystream) : (prgaAdvance k).valid = k.valid := rfl
@[simp] theorem prgaStep_fst (k : Keystream) (b : Byte) : (prgaStep k b).1 = prgaAdvance k := rfl
@[simp] theorem prgaStep_snd (k : Keystream) (b : Byte) :
    (prgaStep k b).2 = b ^^^ prgaSelect (prgaAdvance k) := rfl

theorem prgaAdvance_permutation {k : Keystream} (h : IsPermutation k.S) : IsPermutation (prgaAdvance k).S :=
  h.swapEntries _ _

/-- What RC4_INIT can do (R103). -/
theorem execRc4Init_cases {s t : State} (h : execRc4Init s = .next t) :
    (legalKeyLen s.keyLen = true ∧
      t = (s.putStream ⟨keySchedule s.key s.keyLen.toNat, 0#8, 0#8, true⟩).complete ⟨false, false, false⟩) ∨
    (legalKeyLen s.keyLen = false ∧ t = s.raiseError .badKeylen) := by
  unfold execRc4Init at h
  split at h
  · exact .inl ⟨‹_›, by injection h with h; exact h.symm⟩
  · exact .inr ⟨Bool.eq_false_iff.mpr ‹_›, by injection h with h; exact h.symm⟩

/-- What RC4_BYTE can do (R104). -/
theorem execRc4Byte_cases {s t : State} (h : execRc4Byte s = .next t) :
    (s.rc4.valid = true ∧
      t = ((s.putStream (prgaAdvance s.rc4)).putData (prgaStep s.rc4 s.rc4Data).2).complete ⟨false, false, false⟩) ∨
    (s.rc4.valid = false ∧ t = s.raiseError .rc4Uninit) := by
  unfold execRc4Byte at h
  split at h
  · exact .inl ⟨‹_›, by injection h with h; exact h.symm⟩
  · exact .inr ⟨Bool.eq_false_iff.mpr ‹_›, by injection h with h; exact h.symm⟩

end Sys2Proof.Machine
end

