-- ==== Sys2Proof/Laws/Bus.lean ====
section
/-!
SUPPORT. What a command, a host access, an event and a step can do, said once each.
-/

namespace Sys2Proof.Machine

/-- Every command ends in a next state (R200, R208). -/
theorem exec_total (i : Instr) (s : State) : ∃ t, exec i s = .next t := by
  cases i <;> simp only [exec] <;> first
    | exact ⟨_, rfl⟩
    | (unfold execRc4Init; split <;> exact ⟨_, rfl⟩)
    | (unfold execRc4Byte; split <;> exact ⟨_, rfl⟩)
    | (unfold execModexp; split <;> exact ⟨_, rfl⟩)

/-- What a command word can do (R83, R84). -/
theorem runCommand_cases {w : Word} {s t : State} (h : runCommand w s = .next t) :
    (∃ i, decode w = .ok i ∧ exec i s = .next t) ∨
    (∃ e, decode w = .error e ∧ t = s.raiseError .illegalCmd) := by
  unfold runCommand at h
  split at h
  · exact .inl ⟨_, ‹_›, h⟩
  · exact .inr ⟨_, ‹_›, by injection h with h; exact h.symm⟩

theorem runCommand_total (w : Word) (s : State) : ∃ t, runCommand w s = .next t := by
  unfold runCommand
  split
  · exact exec_total _ _
  · exact ⟨_, rfl⟩

/-- What a host access can do (R52 to R58). -/
theorem performAccess_cases {a : Access} {s t : State} (h : performAccess a s = .next t) :
    (accessTarget a = none ∧ t = s.respond .busError) ∨
    (∃ n o r, a = .read n o ∧ accessTarget a = some r ∧ t = s.respond (.data (readRegister r s))) ∨
    (∃ n o w, a = .write n o w ∧ accessTarget a = some .cmd ∧ runCommand w (s.respond .done) = .next t) ∨
    (∃ n o w r, a = .write n o w ∧ accessTarget a = some r ∧ r ≠ .cmd ∧
      t = writeRegister r w (s.respond .done)) := by
  unfold performAccess at h
  split at h
  · cases h
  split at h
  · rename_i ht
    exact .inl ⟨ht, by injection h with h; exact h.symm⟩
  · rename_i r ht
    split at h
    · exact .inr (.inl ⟨_, _, r, rfl, ht, by injection h with h; exact h.symm⟩)
    · split at h
      · rename_i hr
        exact .inr (.inr (.inl ⟨_, _, _, rfl, by rw [ht, show r = .cmd by simpa using hr], h⟩))
      · rename_i hr
        exact .inr (.inr (.inr ⟨_, _, _, r, rfl, ht, by simpa using hr, by injection h with h; exact h.symm⟩))

/-- An access inside the window always has its effect (R50, R53). -/
theorem performAccess_total {a : Access} (ha : a.offset < windowSize) (s : State) :
    ∃ t, performAccess a s = .next t := by
  unfold performAccess
  rw [if_neg (Nat.not_le.mpr ha)]
  split
  · exact ⟨_, rfl⟩
  · split
    · exact ⟨_, rfl⟩
    · split
      · exact runCommand_total _ _
      · exact ⟨_, rfl⟩

/-- What a step can do (R60, R230, R232). -/
theorem step_cases {s t : State} (h : step s = .next t) :
    (s.pending = [] ∧ t = s) ∨
    (∃ a es, s.pending = .access a :: es ∧ performAccess a (s.withPending es) = .next t) ∨
    (∃ l es, s.pending = .reset l :: es ∧ t = (s.withPending es).hardReset) := by
  unfold step at h
  split at h
  · exact .inl ⟨‹_›, by injection h with h; exact h.symm⟩
  · rename_i e es hp
    cases e with
    | access a => exact .inr (.inl ⟨a, es, hp, h⟩)
    | reset l => exact .inr (.inr ⟨l, es, hp, by injection h with h; exact h.symm⟩)

/-- A host write leaves every part of the state but the registers a host may write (R51, R54, R59). -/
theorem writeRegister_keeps (r : Reg) (w : Word) (s : State) :
    (writeRegister r w s).addrOut = s.addrOut ∧ (writeRegister r w s).valOut = s.valOut ∧
    (writeRegister r w s).st = s.st ∧ (writeRegister r w s).rc4 = s.rc4 ∧
    (writeRegister r w s).mxRes = s.mxRes ∧ (writeRegister r w s).rom = s.rom ∧
    (writeRegister r w s).pending = s.pending ∧ (writeRegister r w s).response = s.response := by
  cases r <;> exact ⟨rfl, rfl, rfl, rfl, rfl, rfl, rfl, rfl⟩

end Sys2Proof.Machine
end

