-- ==== Sys2Proof/Laws/PerInstr.lean ====
section
/-!
SUPPORT. The per-instruction family Encoded: an instruction is well formed, its word keeps RSV clear and carries its
opcode, and the opcode map reads the opcode back (R80 to R82).
-/

def Sys2Proof.Laws.Encoded.Statement (i : Sys2Proof.Instr) : Prop :=
  i.wellFormed = true ∧ Sys2Proof.reservedClear (Sys2Proof.encode i) = true ∧
  Sys2Proof.opcField (Sys2Proof.encode i) = Sys2Proof.opcodeOf i ∧
  Sys2Proof.decodeOpcode (Sys2Proof.opcodeOf i) = some i

namespace Sys2Proof.Laws.Encoded

theorem nop : Statement .nop := ⟨rfl, by decide, by decide, rfl⟩
theorem rc4Init : Statement .rc4Init := ⟨rfl, by decide, by decide, rfl⟩
theorem rc4Byte : Statement .rc4Byte := ⟨rfl, by decide, by decide, rfl⟩
theorem cb1Enc : Statement .cb1Enc := ⟨rfl, by decide, by decide, rfl⟩
theorem cb1Dec : Statement .cb1Dec := ⟨rfl, by decide, by decide, rfl⟩
theorem modexp : Statement .modexp := ⟨rfl, by decide, by decide, rfl⟩
theorem mcEnc : Statement .mcEnc := ⟨rfl, by decide, by decide, rfl⟩
theorem mcDec : Statement .mcDec := ⟨rfl, by decide, by decide, rfl⟩
theorem mcActivate : Statement .mcActivate := ⟨rfl, by decide, by decide, rfl⟩
theorem mcDefault : Statement .mcDefault := ⟨rfl, by decide, by decide, rfl⟩
theorem procNew : Statement .procNew := ⟨rfl, by decide, by decide, rfl⟩
theorem procNewDefault : Statement .procNewDefault := ⟨rfl, by decide, by decide, rfl⟩
theorem procEncrypt : Statement .procEncrypt := ⟨rfl, by decide, by decide, rfl⟩
theorem procDecrypt : Statement .procDecrypt := ⟨rfl, by decide, by decide, rfl⟩
theorem procAutodecrypt : Statement .procAutodecrypt := ⟨rfl, by decide, by decide, rfl⟩

end Sys2Proof.Laws.Encoded
end

