-- ==== Sys2Proof/Laws/Platform.lean ====
section
/-!
SUPPORT. How an access finds its instance on a platform (R50, R212).
-/

namespace Sys2Proof.Machine

@[simp] theorem accessAt_offset (a : Access) (off : Nat) : (accessAt a off).offset = off := by
  cases a <;> rfl

theorem inWindowOf_iff (base addr : Nat) :
    inWindowOf base addr = true ↔ base ≤ addr ∧ addr < base + windowSize := by
  unfold inWindowOf
  rw [Bool.and_eq_true, decide_eq_true_iff, decide_eq_true_iff]

/-- The selected instance exists, and its window holds the address. -/
theorem selected_some {base : Nat → Nat} {addr : Nat} {n k : Nat} (h : selected base addr n = some k) :
    k < n ∧ base k ≤ addr ∧ addr < base k + windowSize := by
  induction n with
  | zero => cases h
  | succ n ih =>
    unfold selected at h
    split at h
    · rename_i hw
      injection h with h
      subst h
      exact ⟨Nat.lt_succ_self _, (inWindowOf_iff _ _).mp hw⟩
    · exact ⟨Nat.lt_succ_of_lt (ih h).1, (ih h).2⟩

/-- If the window of an existing instance holds the address, some instance is selected. -/
theorem selected_isSome {base : Nat → Nat} {addr : Nat} {n k : Nat} (hk : k < n)
    (h : base k ≤ addr ∧ addr < base k + windowSize) : ∃ j, selected base addr n = some j := by
  induction n with
  | zero => cases hk
  | succ n ih =>
    unfold selected
    split
    · exact ⟨_, rfl⟩
    · rename_i hw
      refine ih (Nat.lt_of_le_of_ne (Nat.le_of_lt_succ hk) fun e => hw ?_)
      exact e ▸ (inWindowOf_iff _ _).mpr h

end Sys2Proof.Machine
end

