-- ==== Sys2Proof/Tests/Slice0.lean ====
section
/-!
SUPPORT. Tests. Expected values come from spec/95_test_vectors.md (the vector is named) or from a hand calculation from
the rule named. The second half shows, for every statement with hypotheses, states and operands that meet them.
-/

open Sys2Proof Sys2Proof.Machine

namespace Sys2Proof.Tests

/-- S_T, the session of the spec's test instantiation (D37). -/
def sessionT : Session := ⟨2682110966135737091#64, 11#64, 0xFFFFFFFFFFFFFFF5#64, emptyAux⟩

/-- The test instantiation T (D37). It is no hardware: it does not meet R152. -/
def paramsT : Config.Params where
  valOpen := fun _ => 0#32
  derive := fun _ _ _ => sessionT
  initialSession := sessionT
  pre := fun _ => Equiv.refl _
  post := fun _ => Equiv.refl _

/-- The block after reset under T. -/
def resetT : State := resetState paramsT

/-- The block under T in an automaton state, with a pair in its operand registers. -/
def pairT (scheme : Scheme) (plain : Bool) (wr : BitVec 2) (a v : Word) : State :=
  { resetT with st := ⟨scheme, plain, wr, sessionT⟩, addrIn := a, valIn := v }

/-- The output pair, STATUS and AUTO_STATE, as the host reads them. -/
def seen (s : State) : List Word :=
  [readRegister .addrOut s, readRegister .valOut s, readRegister .status s, readRegister .autoState s]

/-- The registers named, as the host reads them after a command; none where it stopped. -/
def readAfter (rs : List Reg) (o : Host.Outcome State Fault Refusal) : List Word :=
  match o with
  | .next s => rs.map fun r => readRegister r s
  | _ => []

/-! ## Well-formedness: an ill-formed term for each check -/

theorem test_command_well_formed : Instr.procAutodecrypt.wellFormed = true := by decide
theorem test_reservedClear_refuses : reservedClear 0x00000110#32 = false := by decide
theorem test_inWindow_refuses : (Access.read 4 0x1000).inWindow = false ∧
    (Access.read 4 0x1000).wellFormed = false := by decide
theorem test_wholeWord_refuses : (Access.write 2 0x000 0x10#32).wholeWord = false ∧
    (Access.write 2 0x000 0x10#32).wellFormed = false := by decide
theorem test_aligned_refuses : (Access.read 4 0x002).aligned = false ∧
    (Access.read 4 0x002).wellFormed = false := by decide
theorem test_mapped_refuses : (Access.read 4 0x01C).mapped = false ∧ (Access.read 4 0x3FC).mapped = false ∧
    (Access.read 4 0xC00).mapped = false ∧ (Access.read 4 0x01C).wellFormed = false := by decide
theorem test_access_well_formed : (Access.read 4 0xBFC).wellFormed = true ∧
    (Access.write 4 0x000 0#32).wellFormed = true := by decide

/-! ## Decode: each command's word, bit by bit from R80 and R82 -/

theorem test_decode_nop : decode 0b00000000000000000000000000000000#32 = .ok .nop := by decide
theorem test_decode_rc4Init : decode 0b00000000000000000000000000000001#32 = .ok .rc4Init := by decide
theorem test_decode_rc4Byte : decode 0b00000000000000000000000000000010#32 = .ok .rc4Byte := by decide
theorem test_decode_cb1Enc : decode 0b00000000000000000000000000010000#32 = .ok .cb1Enc := by decide
theorem test_decode_cb1Dec : decode 0b00000000000000000000000000010001#32 = .ok .cb1Dec := by decide
theorem test_decode_modexp : decode 0b00000000000000000000000000100000#32 = .ok .modexp := by decide
theorem test_decode_mcEnc : decode 0b00000000000000000000000000100001#32 = .ok .mcEnc := by decide
theorem test_decode_mcDec : decode 0b00000000000000000000000000100010#32 = .ok .mcDec := by decide
theorem test_decode_mcActivate : decode 0b00000000000000000000000000100011#32 = .ok .mcActivate := by decide
theorem test_decode_mcDefault : decode 0b00000000000000000000000000100100#32 = .ok .mcDefault := by decide
theorem test_decode_procNew : decode 0b00000000000000000000000000110000#32 = .ok .procNew := by decide
theorem test_decode_procNewDefault : decode 0b00000000000000000000000000110001#32 = .ok .procNewDefault := by decide
theorem test_decode_procEncrypt : decode 0b00000000000000000000000000110010#32 = .ok .procEncrypt := by decide
theorem test_decode_procDecrypt : decode 0b00000000000000000000000000110011#32 = .ok .procDecrypt := by decide
theorem test_decode_procAutodecrypt : decode 0b00000000000000000000000000110100#32 = .ok .procAutodecrypt := by
  decide

/-- V-DEC-1 to V-DEC-4. -/
theorem test_decode_refuses : decode 0x00000110#32 = .error .reservedNotZero ∧
    decode 0x00000003#32 = .error (.unassignedOpcode 0x03#8) ∧ decode 0xFFFFFFFF#32 = .error .reservedNotZero ∧
    decode 0x00000035#32 = .error (.unassignedOpcode 0x35#8) := by decide

theorem test_decodeTableWord : decodeTableWord 32 0x34 = some .procAutodecrypt ∧ decodeTableWord 8 0x110 = some .cb1Enc ∧
    decodeTableWord 32 0x110 = none := by decide

/-- V-DEC-1, V-DEC-6: STATUS after an illegal word; a 16-bit write, an unmapped and an unaligned offset. -/
theorem test_illegal_word_and_bus_errors :
    readAfter [.status] (performEvent (commandWrite 0x00000110#32) resetT) = [0x80000001#32] ∧
    performAccess (.write 2 0x000 0x10#32) resetT = .next { resetT with response := .busError } ∧
    performAccess (.write 4 0x01C 0x10#32) resetT = .next { resetT with response := .busError } ∧
    performAccess (.write 4 0x002 0x10#32) resetT = .next { resetT with response := .busError } :=
  ⟨by decide +kernel, rfl, rfl, rfl⟩

/-! ## One step per command -/

/-- V-AUT-25. -/
theorem test_nop : readAfter [.status]
    (exec .nop { resetT with status := ⟨.ok, ⟨false, false, true⟩, false⟩ }) = [0#32] := by decide +kernel

/-- The key "Key" and RC4_INIT. -/
def keyed : State := { resetT with key := ((resetT.key.set 0 0x4B#8).set 1 0x65#8).set 2 0x79#8, keyLen := 3#9 }

/-- V-RC4-4 (the cursors and STATUS), V-RC4-11, V-RC4-12. -/
theorem test_rc4Init : readAfter [.rc4Cur, .status] (exec .rc4Init keyed) = [0x00010000#32, 0#32] ∧
    readAfter [.rc4Cur, .status] (exec .rc4Init resetT) = [0#32, 0x80000002#32] ∧
    readAfter [.status] (exec .rc4Init { resetT with keyLen := 0x101#9 }) = [0x80000002#32] := by decide +kernel

/-- The first three turns of V-RC4-4's schedule by hand (R101): j is 0x4B, then 0x4B + 1 + 0x65 = 0xB1, then
0xB1 + 2 + 0x79 = 0x2C, and each turn swaps S[i] and S[j]. -/
theorem test_ksaTurns : (ksaTurns keyed.key 3 3).2 = 0x2C#8 ∧
    [0x00#8, 0x01#8, 0x02#8, 0x03#8, 0x2C#8, 0x4B#8, 0xB1#8].map (entry (ksaTurns keyed.key 3 3).1) =
      [0x4B#8, 0xB1#8, 0x2C#8, 0x03#8, 0x02#8, 0x00#8, 0x01#8] := by decide +kernel

/-- V-RC4-1, first byte, from the entries of V-RC4-4 that it reads: i = 1, j = 0x33; S[0x33] is any x, here 0x7A. By hand
(R102): after the swap S[1] = 0x7A, S[0x33] = 0x33, so the output is the data XOR S[0xAD]. -/
theorem test_rc4Byte : readAfter [.rc4Data, .rc4Cur, .rc4S 1, .rc4S 0x33, .status]
    (exec .rc4Byte { resetT with
      rc4 := ⟨((identityTable.set 1 0x33#8).set 0x33 0x7A#8).set 0xAD 0xEB#8, 0#8, 0#8, true⟩, rc4Data := 0x50#8 }) =
    [0xBB#32, 0x00013301#32, 0x7A#32, 0x33#32, 0#32] := by decide +kernel

/-- V-RC4-10. -/
theorem test_rc4Byte_uninit : readAfter [.status, .rc4Data, .rc4Cur] (exec .rc4Byte resetT) = [0x80000003#32, 0#32, 0#32] := by
  decide +kernel

/-- V-CB1-S2, V-CB1-2. -/
theorem test_cb1Enc : tableEncrypt resetT.rom ⟨0xBEEFC0DE#32, 0#32⟩ = ⟨0xB4336FA9#32, 0x4DFEFB79#32⟩ ∧
    tableEncrypt resetT.rom ⟨0x00FFFFFF#32, 0x11111111#32⟩ = ⟨0x0A23080E#32, 0x11111111#32⟩ := by decide +kernel
theorem test_cb1Enc_step : readAfter [.addrOut, .valOut, .status] (exec .cb1Enc (pairT .none false 0#2 0xB0000000#32 0xFFFFFFFF#32)) =
    [0xBA529FE9#32, 0x439F0B26#32, 0#32] := by decide +kernel

/-- V-CB1-17, V-CB1-13. -/
theorem test_cb1Dec : tableDecrypt resetT.rom ⟨0xB4336FA9#32, 0#32⟩ = ⟨0xBEEFC0DE#32, 0xBA65DAD9#32⟩ ∧
    tableDecrypt resetT.rom ⟨0x0A000000#32, 0#32⟩ = ⟨0x000805E3#32, 0#32⟩ := by decide +kernel
theorem test_cb1Dec_step : readAfter [.addrOut, .valOut, .status] (exec .cb1Dec (pairT .none false 0#2 0xB4336FA9#32 0x4DFEFB79#32)) =
    [0xBEEFC0DE#32, 0#32, 0#32] := by decide +kernel

/-- V-MX-1, V-MX-3, V-MX-4, V-MX-7. -/
theorem test_modexp : modExp 2#64 10#64 1000#64 = 24#64 ∧ modExp 5#64 0#64 1#64 = 0#64 ∧ modExp 0#64 0#64 7#64 = 1#64 ∧
    modExp 0x8000000000000000#64 2#64 0xFFFFFFFFFFFFFFFF#64 = 0x4000000000000000#64 := by decide +kernel
/-- V-MX-13. -/
theorem test_modexp_mod_zero : readAfter [.status, .mxResLo] (exec .modexp { resetT with mxRes := 9#64 }) =
    [0x80000004#32, 9#32] := by decide +kernel

/-- V-MC-T1, V-MC-T6. -/
theorem test_mcEnc : seen (mcEncCommand paramsT (pairT .none false 0#2 0x9029BEAC#32 0x0C0A9225#32)) =
      [0x7556B331#32, 0x48DFD27A#32, 0#32, 0#32] ∧
    mcEncrypt paramsT sessionT ⟨0xFFFFFFFF#32, 0xFFFFFFF5#32⟩ = ⟨0xFFFFFFFF#32, 0xFFFFFFF5#32⟩ := by decide +kernel
/-- V-MC-T2. -/
theorem test_mcDec : seen (mcDecCommand paramsT (pairT .none false 0#2 0x7556B331#32 0x48DFD27A#32)) =
    [0x9029BEAC#32, 0x0C0A9225#32, 0#32, 0#32] := by decide +kernel
/-- V-MC-T15. -/
theorem test_mcActivate : seen (mcActivateCommand paramsT (pairT .table true 1#2 5#32 6#32)) = [0#32, 0#32, 0x10#32, 0x15#32] := by
  decide +kernel
/-- V-MC-T16. -/
theorem test_mcDefault : seen (mcDefaultCommand paramsT (pairT .table true 1#2 5#32 6#32)) = [0#32, 0#32, 0#32, 0x15#32] ∧
    (mcDefaultCommand paramsT resetT).st.sess = sessionT := by decide +kernel
/-- V-AUT-23. -/
theorem test_procNew : seen (procNewCommand paramsT (pairT .modular false 1#2 5#32 6#32)) = [0#32, 0#32, 0#32, 0#32] := by
  decide +kernel
/-- V-AUT-24. -/
theorem test_procNewDefault : seen (procNewDefaultCommand paramsT (pairT .table true 1#2 5#32 6#32)) =
    [0#32, 0#32, 0#32, 0x02#32] := by decide +kernel
/-- V-AUT-19. -/
theorem test_procEncrypt_activates : seen (procEncryptCommand Config.givenConstants paramsT (pairT .none false 0#2 0xBEEFC0DE#32 0#32)) =
    [0xB4336FA9#32, 0x4DFEFB79#32, 0x10#32, 0x02#32] := by decide +kernel
/-- V-AUT-20. -/
theorem test_procEncrypt_modular : seen (procEncryptCommand Config.givenConstants paramsT (pairT .modular false 0#2 0x40123456#32 1#32)) =
    [0x5254818D#32, 0xDF021798#32, 0#32, 0x02#32] := by decide +kernel
/-- V-AUT-21. -/
theorem test_procDecrypt_activates : seen (procDecryptCommand Config.givenConstants paramsT (pairT .none false 0#2 0xB4336FA9#32 0x4DFEFB79#32)) =
    [0xBEEFC0DE#32, 0#32, 0x10#32, 0x02#32] := by decide +kernel
/-- V-AUT-22: no pass-through. -/
theorem test_procDecrypt_plaintext : (seen (procDecryptCommand Config.givenConstants paramsT (pairT .none false 0#2 0x40123456#32 1#32))).head? =
    some 0x4A051986#32 := by decide +kernel
/-- V-AUT-1, V-AUT-3, V-AUT-5, V-AUT-6, V-AUT-10, V-AUT-11 (the value of V-AUT-10 is OPEN). -/
theorem test_procAutodecrypt_table :
    seen (procAutodecryptCommand Config.givenConstants paramsT (pairT .none false 0#2 0xBEEFC0DE#32 0x12345678#32)) =
      [0xBEEFC0DE#32, 0x12345678#32, 0x30#32, 0x12#32] ∧
    seen (procAutodecryptCommand Config.givenConstants paramsT (pairT .none false 0#2 0xB4336FA9#32 0x4DFEFB79#32)) =
      [0xBEEFC0DE#32, 0#32, 0x10#32, 0x12#32] ∧
    seen (procAutodecryptCommand Config.givenConstants paramsT (pairT .none false 0#2 0x40123456#32 1#32)) =
      [0x40123456#32, 1#32, 0#32, 0x15#32] ∧
    seen (procAutodecryptCommand Config.givenConstants paramsT (pairT .table true 1#2 0x12345678#32 0x9ABCDEF0#32)) =
      [0x12345678#32, 0x9ABCDEF0#32, 0#32, 0x05#32] ∧
    ((procAutodecryptCommand Config.givenConstants paramsT (pairT .none false 0#2 0x3A000000#32 0#32)).addrOut = 0x30FD5209#32 ∧
      (procAutodecryptCommand Config.givenConstants paramsT (pairT .none false 0#2 0x3A000000#32 0#32)).st.word = 0x11#32) ∧
    seen (procAutodecryptCommand Config.givenConstants paramsT (pairT .table false 1#2 0xB4336FA9#32 0x4DFEFB79#32)) =
      [0xBEEFC0DE#32, 0#32, 0x10#32, 0x12#32] := by decide +kernel
/-- V-AUT-12, V-AUT-13, V-AUT-14, V-AUT-15, V-AUT-16. -/
theorem test_procAutodecrypt_modular :
    seen (procAutodecryptCommand Config.givenConstants paramsT (pairT .modular false 1#2 0x5254818D#32 0xDF021798#32)) =
      [0x40123456#32, 1#32, 0#32, 0x02#32] ∧
    seen (procAutodecryptCommand Config.givenConstants paramsT (pairT .modular false 0#2 0xA5D24258#32 0xBFA47963#32)) =
      [0x40000000#32, 0xF#32, 0#32, 0x12#32] ∧
    seen (procAutodecryptCommand Config.givenConstants paramsT (pairT .modular false 1#2 0x55422DB9#32 0x01596215#32)) =
      [0xFFFFFFFF#32, 0#32, 0#32, 0x02#32] ∧
    seen (procAutodecryptCommand Config.givenConstants paramsT (pairT .modular false 0#2 0x02BEA4B9#32 0x5DF038BF#32)) =
      [0xFFFFFFFF#32, 1#32, 0x40#32, 0x02#32] ∧
    seen (procAutodecryptCommand Config.givenConstants paramsT (pairT .modular false 0#2 0xA1013A03#32 0x8B4AB1EF#32)) =
      [0xBEEFC0DE#32, 5#32, 0x10#32, 0x12#32] := by decide +kernel

/-- The commands apply these functions to the hardware's own parameters. -/
theorem test_commands_use_the_hardware (s : State) : exec .mcEnc s = .next (mcEncCommand Config.hardware.params s) ∧
    exec .procAutodecrypt s = .next (procAutodecryptCommand Config.givenConstants Config.hardware.params s) := ⟨rfl, rfl⟩

/-- The step after reset runs the command that `withFetchWord` places. -/
theorem test_step_runs_the_fetched_word : ∀ w ∈ [0, 0x10, 0x20, 0x23, 0x30, 0x34],
    ∃ t, step (State.reset.withFetchWord 32 w) = .next t := by
  simp only [List.mem_cons, List.not_mem_nil, or_false, forall_eq_or_imp, forall_eq]
  exact ⟨⟨_, rfl⟩, ⟨_, rfl⟩, ⟨_, rfl⟩, ⟨_, rfl⟩, ⟨_, rfl⟩, ⟨_, rfl⟩⟩

/-- R172 and I5: the constants are arguments; with ACT_MASK all ones, 0xBEEFC0DF does not activate, and it does with the
given mask. -/
theorem test_constants_are_arguments : isAct { Config.givenConstants with actMask := 0xFFFFFFFF#32 } 0xBEEFC0DF#32 = false ∧
    isAct Config.givenConstants 0xBEEFC0DF#32 = true := by decide

/-- R88: the expansion of a line. -/
theorem test_assemble : assemble (.enc1 7#32 9#32) = [.write 4 0x008 7#32, .write 4 0x00C 9#32, .write 4 0x000 0x10#32] ∧
    assemble (.ld64 .mxExp 0x0000000100000002#64) = [.write 4 0x038 2#32, .write 4 0x03C 1#32] ∧
    assemble (.ld64 .mxRes 0x0000000100000002#64) = [.write 4 0x048 2#32, .write 4 0x04C 1#32] ∧
    assemble .clrfault = [.write 4 0x004 0x80000000#32] := by decide

/-! ## Witnesses: states and operands that meet the hypotheses of the statements -/

/-- The block after reset with a pair in its operand registers, in an automaton state. -/
def stateAt (scheme : Scheme) (plain : Bool) (wr : BitVec 2) (a v : Word) : State :=
  { State.reset with st := ⟨scheme, plain, wr, Config.hardware.params.initialSession⟩, addrIn := a, valIn := v }

/-- IllegalWordsRaiseIllegalCmd: both edges of every unassigned range and of RSV. -/
theorem witness_illegal_words : ∀ w ∈ [0x00000100#32, 0x80000000#32, 0x00000110#32, 0x03#32, 0x0F#32, 0x12#32, 0x1F#32,
    0x25#32, 0x2F#32, 0x35#32, 0xFF#32], w.extractLsb' 8 24 ≠ 0#24 ∨ UnassignedOpcode (w.extractLsb' 0 8) := by
  simp only [List.mem_cons, List.not_mem_nil, or_false, forall_eq_or_imp, forall_eq]
  and_intros <;> decide +kernel
theorem witness_assigned_words : ∀ w ∈ [0x00#32, 0x02#32, 0x10#32, 0x11#32, 0x20#32, 0x24#32, 0x30#32, 0x34#32],
    ¬ (w.extractLsb' 8 24 ≠ 0#24 ∨ UnassignedOpcode (w.extractLsb' 0 8)) := by
  simp only [List.mem_cons, List.not_mem_nil, or_false, forall_eq_or_imp, forall_eq]
  and_intros <;> decide +kernel

/-- StepRunsTheDecodedCommand. -/
theorem witness_step_runs : (State.reset.withFetchWord 32 0x20).pending = commandWrite 0x20#32 :: [] ∧
    decode 0x20#32 = .ok .modexp ∧ Instr.modexp.wellFormed = true := ⟨rfl, by decide, rfl⟩

/-- Rc4InitRunsTheKeySchedule, ErrorCodeNamesItsCause: both clauses at their edges. -/
theorem witness_keylen_legal : ∀ n ∈ [1#9, 256#9],
    1 ≤ ({ State.reset with keyLen := n } : State).keyLen.toNat ∧
      ({ State.reset with keyLen := n } : State).keyLen.toNat ≤ 256 := by decide +kernel
theorem witness_keylen_illegal : ∀ n ∈ [0#9, 257#9, 511#9],
    ({ State.reset with keyLen := n } : State).keyLen.toNat = 0 ∨
      257 ≤ ({ State.reset with keyLen := n } : State).keyLen.toNat := by decide +kernel

/-- The block after reset, its keystream running. -/
def running : State := State.reset.putStream ⟨identityTable, 0#8, 0#8, true⟩

/-- Rc4ByteAdvancesTheStream. -/
theorem witness_stream_valid : running.rc4.valid = true ∧ State.reset.rc4.valid = false := ⟨rfl, rfl⟩

/-- CyclicKeyDecidesTheSchedule: one zero byte and 256 zero bytes. -/
theorem witness_cyclic_keys : 1 ≤ ({ State.reset with keyLen := 1#9 } : State).keyLen.toNat ∧
    ({ State.reset with keyLen := 256#9 } : State).keyLen.toNat ≤ 256 ∧
    ∀ n, n < 256 →
      entry ({ State.reset with keyLen := 1#9 } : State).key (BitVec.ofNat 8 (n % 1)) =
        entry ({ State.reset with keyLen := 256#9 } : State).key (BitVec.ofNat 8 (n % 256)) := by
  refine ⟨by decide, by decide, fun n _ => ?_⟩
  simp [State.reset, resetState, entry]

/-- KeystreamIgnoresTheData. -/
theorem witness_keystream_data : running.rc4 = ({ running with rc4Data := 7#8 } : State).rc4 ∧ running.rc4.valid = true ∧
    [0x50#8, 0x6C#8].length = [0x00#8, 0xFF#8].length := ⟨rfl, rfl, rfl⟩

/-- TableCommandsUndoEachOther, EncryptionMarksTheTopByte. -/
theorem witness_tables_lawful : State.reset.rom.Lawful := by
  intro c
  revert c
  exact (by decide : ∀ c : BitVec 4, (xorContents[c.toNat]).extractLsb' 28 4 = 0#4)

/-- EncryptionMarksTheTopByte: addresses with bits 27:25 clear, the other bits of the top byte 0 or 1. -/
theorem witness_clear_bits : ∀ a ∈ [0x00000000#32, 0x201F6024#32, 0xF1FFFFFF#32], a.extractLsb' 25 3 = 0#3 := by
  simp only [List.mem_cons, List.not_mem_nil, or_false, forall_eq_or_imp, forall_eq]
  decide +kernel

/-- LowValueEntriesAreNeverRead: tables that do differ below entry 3. -/
theorem witness_low_value_entries : ∀ c : BitVec 4, 3 ≤ c.toNat →
    (State.reset.rom.valTable.set 2 (State.reset.rom.valTable[2] + 1#32))[c.toNat] = State.reset.rom.valAt c := by
  intro c hc
  rw [Vector.getElem_set, if_neg (by omega)]
  rfl

/-- ModexpComputesThePower. -/
theorem witness_moduli : ({ State.reset with mxMod := 1#64 } : State).mxMod ≠ 0#64 ∧ State.reset.mxMod = 0#64 :=
  ⟨by decide, rfl⟩

/-- A session that meets the pairing law of R33 with a modulus above 1. -/
def smallSession : Session := ⟨3#64, 3#64, 15#64, emptyAux⟩

/-- ModularCommandsUndoEachOther. -/
theorem witness_paired_session : smallSession.Paired ∧
    ({ State.reset with st := ⟨.modular, false, 0#2, smallSession⟩ } : State).st.sess.Paired := by
  have h : smallSession.Paired := by
    show ∀ m : Nat, m < 15 → (m ^ 3 % 15) ^ 3 % 15 = m ∧ (m ^ 3 % 15) ^ 3 % 15 = m
    decide
  exact ⟨h, h⟩

/-- DefaultSessionMeetsItsVectors. -/
theorem witness_default_vector : ((⟨0x3818DDE5#32, 0xE72B2B16#32⟩, ⟨0x201F6024#32, 0x00000000#32⟩) : Pair × Pair) ∈
    [((⟨0xD08F3A49#32, 0x00078A53#32⟩, ⟨0x9029BEAC#32, 0x0C0A9225#32⟩) : Pair × Pair),
      (⟨0x3818DDE5#32, 0xE72B2B16#32⟩, ⟨0x201F6024#32, 0x00000000#32⟩),
      (⟨0x973E0B2A#32, 0xA7D4AF10#32⟩, ⟨0x2096F5B8#32, 0x000000BE#32⟩)] := by decide +kernel

/-- ProcEncryptFollowsTheScheme and the clauses: the two activation addresses and their neighbours. -/
theorem witness_activation_addresses : ActivationAddress 0xBEEFC0DE#32 ∧ ActivationAddress 0xBEEFC0DF#32 ∧
    ¬ ActivationAddress 0xBEEFC0DD#32 ∧ ¬ ActivationAddress 0xBEEFC0E0#32 := by decide +kernel

/-- ProcDecryptFollowsTheScheme: an output address that activates, and one that does not. -/
theorem witness_procDecrypt : ∃ t u, exec .procDecrypt (stateAt .none false 0#2 0xB4336FA9#32 0x4DFEFB79#32) = .next t ∧
    ActivationAddress t.addrOut ∧ exec .procDecrypt (stateAt .none false 0#2 0x2A973DBD#32 0#32) = .next u ∧
    ¬ ActivationAddress u.addrOut := by
  refine ⟨_, _, rfl, Or.inl ?_, rfl, ?_⟩
  · show (schemeDecrypt _ _ _ _ _).out.addr = _; decide +kernel
  · have h : (procDecryptCommand Config.givenConstants Config.hardware.params (stateAt .none false 0#2 0x2A973DBD#32 0#32)).addrOut = 0x201F6024#32 := by
      decide +kernel
    rw [h]; decide

/-- RawActivationIsConsumed: in scheme None and in scheme Table. -/
theorem witness_clauseA : ∀ sc ∈ [Scheme.none, .table], ∀ a ∈ [0xBEEFC0DE#32, 0xBEEFC0DF#32],
    (stateAt sc false 0#2 a 0#32).st.scheme ≠ .modular ∧ (stateAt sc false 0#2 a 0#32).st.wr = 0#2 ∧
    ActivationAddress (stateAt sc false 0#2 a 0#32).addrIn := by
  simp only [List.mem_cons, List.not_mem_nil, or_false, forall_eq_or_imp, forall_eq]
  decide +kernel

/-- EncryptedCodeStarts: each of bits 27:25 alone, and no activation after decryption. -/
theorem witness_clauseB : (∀ a ∈ [0x02000000#32, 0x04000000#32, 0x08000000#32, 0x2A973DBD#32],
    (stateAt .none false 0#2 a 0#32).st.scheme ≠ .modular ∧ (stateAt .none false 0#2 a 0#32).st.wr = 0#2 ∧
    EncryptedAddress (stateAt .none false 0#2 a 0#32).addrIn ∧ ¬ ActivationAddress (stateAt .none false 0#2 a 0#32).addrIn) ∧
    ∃ c, exec .cb1Dec (stateAt .none false 0#2 0x2A973DBD#32 0#32) = .next c ∧ ¬ ActivationAddress c.addrOut := by
  refine ⟨?_, _, rfl, ?_⟩
  · simp only [List.mem_cons, List.not_mem_nil, or_false, forall_eq_or_imp, forall_eq]
    decide +kernel
  have h : (tableDecrypt (stateAt .none false 0#2 0x2A973DBD#32 0#32).rom ⟨0x2A973DBD#32, 0#32⟩).addr = 0x201F6024#32 := by
    decide +kernel
  show ¬ ActivationAddress (tableDecrypt (stateAt .none false 0#2 0x2A973DBD#32 0#32).rom ⟨0x2A973DBD#32, 0#32⟩).addr
  rw [h]; decide

/-- PlaintextCodeStarts. -/
theorem witness_clauseC : ∀ sc ∈ [Scheme.none, .table], ∀ a ∈ [0x00000000#32, 0x30400000#32, 0xF1FFFFFF#32],
    (stateAt sc true 0#2 a 0#32).st.scheme ≠ .modular ∧ (stateAt sc true 0#2 a 0#32).st.wr = 0#2 ∧
    ¬ EncryptedAddress (stateAt sc true 0#2 a 0#32).addrIn := by
  simp only [List.mem_cons, List.not_mem_nil, or_false, forall_eq_or_imp, forall_eq]
  decide +kernel

/-- ContinuationWordCountsDown: a plaintext code's word, and one whose output does not activate. -/
theorem witness_clauseD : (stateAt .table true 1#2 0x12345678#32 0#32).st.scheme ≠ .modular ∧
    (stateAt .table true 1#2 0x12345678#32 0#32).st.wr ≠ 0#2 ∧
    ∃ t, exec .procAutodecrypt (stateAt .table true 1#2 0x12345678#32 0#32) = .next t ∧ ¬ ActivationAddress t.addrOut := by
  refine ⟨by decide, by decide, _, rfl, ?_⟩
  have h : (procAutodecryptCommand Config.givenConstants Config.hardware.params (stateAt .table true 1#2 0x12345678#32 0#32)).addrOut = 0x12345678#32 := by
    decide +kernel
  rw [h]; decide

/-- A session whose modulus is 0: the guard passes every pair integer (R143). -/
def passingSession : Session := ⟨3#64, 3#64, 0#64, emptyAux⟩

theorem passingSession_undoes (p : Config.Params) (pr : Pair) :
    mcDecrypt p passingSession (mcEncrypt p passingSession pr) = pr := by
  have g : ∀ q e : Dword, guardedExp q e passingSession.n = q := fun q e =>
    guardedExp_of_le (BitVec.le_def.mpr (Nat.zero_le _))
  simp [mcDecrypt, mcEncrypt, g]

/-- In scheme Modular, words-remaining `wr`, about to decrypt the pair `pr`. -/
def modularAt (wr : BitVec 2) (pr : Pair) : State :=
  { State.reset with
    st := ⟨.modular, false, wr, passingSession⟩
    addrIn := (mcEncrypt Config.hardware.params passingSession pr).addr
    valIn := (mcEncrypt Config.hardware.params passingSession pr).val }

theorem modularAt_output (wr : BitVec 2) (pr : Pair) :
    ∃ t, exec .procAutodecrypt (modularAt wr pr) = .next t ∧ t.addrOut = pr.addr ∧ t.valOut = pr.val := by
  have h : (autoDecrypt Config.givenConstants Config.hardware.params (modularAt wr pr).rom (modularAt wr pr).pairIn (modularAt wr pr).st).out = pr := by
    show (clauseF _ _ (clauseE _ _ (mcEncrypt _ _ _) _)).out = pr
    rw [clauseF_out, clauseE_out]
    exact passingSession_undoes _ _
  exact ⟨_, rfl, congrArg Pair.addr h, congrArg Pair.val h⟩

/-- ModularPairCountsItsCode: inside a code; where one starts, the sentinel and a two-word code. -/
theorem witness_clauseE : (∀ wr pr, (modularAt wr pr).st.scheme = .modular ∧ (modularAt wr pr).st.wr = wr) ∧
    ∀ wr ∈ [0#2, 1#2], ∀ a ∈ [0xFFFFFFFF#32, 0x40000000#32, 0x00000000#32],
      ∃ t, exec .procAutodecrypt (modularAt wr ⟨a, 0#32⟩) = .next t ∧ ¬ ActivationAddress t.addrOut := by
  refine ⟨fun _ _ => ⟨rfl, rfl⟩, fun wr _ a ha => ?_⟩
  have hn : ¬ ActivationAddress a := by
    revert ha
    simp only [List.mem_cons, List.not_mem_nil, or_false]
    rintro (rfl | rfl | rfl) <;> decide
  obtain ⟨t, ht, h, _⟩ := modularAt_output wr ⟨a, 0#32⟩
  exact ⟨t, ht, by rw [h]; exact hn⟩

/-- DecryptedActivationWins: a re-activation in scheme Modular, and an encrypted activation outside it. -/
theorem witness_clauseF : (¬ ((modularAt 0#2 ⟨0xBEEFC0DE#32, 5#32⟩).st.scheme ≠ .modular ∧
      (modularAt 0#2 ⟨0xBEEFC0DE#32, 5#32⟩).st.wr = 0#2 ∧
      ActivationAddress (modularAt 0#2 ⟨0xBEEFC0DE#32, 5#32⟩).addrIn)) ∧
    (∃ t, exec .procAutodecrypt (modularAt 0#2 ⟨0xBEEFC0DE#32, 5#32⟩) = .next t ∧ ActivationAddress t.addrOut) ∧
    ¬ ((stateAt .none false 0#2 0xB4336FA9#32 0x4DFEFB79#32).st.scheme ≠ .modular ∧
      (stateAt .none false 0#2 0xB4336FA9#32 0x4DFEFB79#32).st.wr = 0#2 ∧
      ActivationAddress (stateAt .none false 0#2 0xB4336FA9#32 0x4DFEFB79#32).addrIn) ∧
    ∃ t, exec .procAutodecrypt (stateAt .none false 0#2 0xB4336FA9#32 0x4DFEFB79#32) = .next t ∧
      ActivationAddress t.addrOut := by
  refine ⟨fun h => h.1 rfl, ?_, by decide, _, rfl, Or.inl (by decide +kernel)⟩
  obtain ⟨t, ht, h, _⟩ := modularAt_output 0#2 ⟨0xBEEFC0DE#32, 5#32⟩
  exact ⟨t, ht, Or.inl h⟩

/-- ModularSchemePersists: a step that waits, one that runs PROC_NEW, one that resets. -/
theorem witness_modular_steps : (modularAt 0#2 ⟨0#32, 0#32⟩).st.scheme = .modular ∧
    (∃ t, step (modularAt 0#2 ⟨0#32, 0#32⟩) = .next t) ∧
    (∃ t, step ((modularAt 0#2 ⟨0#32, 0#32⟩).withPending [commandWrite 0x30#32]) = .next t ∧ t.st.scheme = .none) ∧
    ∃ t, step ((modularAt 0#2 ⟨0#32, 0#32⟩).withPending [.reset none]) = .next t ∧ t.st.scheme = .none :=
  ⟨rfl, ⟨_, rfl⟩, ⟨_, rfl, rfl⟩, ⟨_, rfl, rfl⟩⟩

/-- The block after reset, with other contents in the units that the pair commands do not read. -/
def otherUnits : State := { running with rc4Data := 3#8, mxMod := 4#64 }

/-- CipherCommandsNeverFail, PairCommandsIgnoreTheOtherUnits: two states, for a command that produces no pair; and with
old output pairs that differ, for one that produces a pair. -/
theorem witness_pair_commands : Instr.procNew ∈ [Instr.cb1Enc, .cb1Dec, .mcEnc, .mcDec, .mcActivate, .mcDefault, .procNew,
      .procNewDefault, .procEncrypt, .procDecrypt, .procAutodecrypt] ∧
    Instr.nop ∈ [Instr.nop, .cb1Enc, .cb1Dec, .mcEnc, .mcDec, .mcActivate, .mcDefault, .procNew, .procNewDefault,
      .procEncrypt, .procDecrypt, .procAutodecrypt] ∧
    State.reset.addrIn = otherUnits.addrIn ∧ State.reset.valIn = otherUnits.valIn ∧ State.reset.rom = otherUnits.rom ∧
    State.reset.st = otherUnits.st ∧ State.reset.addrOut = otherUnits.addrOut ∧ State.reset.valOut = otherUnits.valOut ∧
    Instr.cb1Enc ∉ [Instr.mcActivate, .mcDefault, .procNew, .procNewDefault] ∧
    State.reset.addrOut ≠ (otherUnits.putPair ⟨7#32, 8#32⟩).addrOut ∧
    State.reset.st = (otherUnits.putPair ⟨7#32, 8#32⟩).st := by
  refine ⟨by decide, by decide, rfl, rfl, rfl, rfl, rfl, rfl, by decide, by decide, rfl⟩

/-- FailedCommandChangesOnlyStatus, ErrorCodeNamesItsCause: each error is raised from reset. -/
theorem witness_errors : ∀ we ∈ [(0x35#32, ErrorCode.illegalCmd), (0x01#32, .badKeylen), (0x02#32, .rc4Uninit),
    (0x20#32, .modZero)], ∃ t, performEvent (commandWrite we.1) State.reset = .next t ∧ t.status.err = we.2 ∧
      t.status.err ≠ .ok := by
  simp only [List.mem_cons, List.not_mem_nil, or_false, forall_eq_or_imp, forall_eq]
  exact ⟨⟨_, rfl, rfl, nofun⟩, ⟨_, rfl, rfl, nofun⟩, ⟨_, rfl, rfl, nofun⟩, ⟨_, rfl, rfl, nofun⟩⟩

/-- The block after reset with FAULT set. -/
def faulted : State := State.reset.raiseError .modZero

/-- FaultBitIsSticky: FAULT kept by a command, cleared by a write of bit 31 and by a reset. -/
theorem witness_fault_bit : faulted.status.fault = true ∧
    (∃ t, step (faulted.withPending [commandWrite 0x00#32]) = .next t ∧ t.status.fault = true) ∧
    (∃ t, step (faulted.withPending [.access (.write 4 0x004 0x80000000#32)]) = .next t ∧ t.status.fault = false) ∧
    (∃ t, step (faulted.withPending [.reset none]) = .next t ∧ t.status.fault = false) ∧
    (0x80000000#32).getLsbD 31 = true :=
  ⟨rfl, ⟨_, rfl, rfl⟩, ⟨_, rfl, rfl⟩, ⟨_, rfl, rfl⟩, by decide⟩

/-- RejectedAccessChangesNothing: each cause at its edges, and accepted neighbours. -/
theorem witness_rejected_accesses : (∀ a ∈ [Access.read 2 0x008, .read 8 0x008, .read 4 0x001, .read 4 0xBFF, .read 4 0x01C,
      .read 4 0x02C, .read 4 0x050, .read 4 0x3FC, .read 4 0xC00, .write 4 0xFFC 0#32], a.offset < 0x1000 ∧
      (a.size ≠ 4 ∨ a.offset % 4 ≠ 0 ∨ a.offset = 0x01C ∨ a.offset = 0x02C ∨
        (0x050 ≤ a.offset ∧ a.offset ≤ 0x3FC) ∨ 0xC00 ≤ a.offset)) ∧
    ∀ a ∈ [Access.write 4 0x000 0xFF#32, .read 4 0x018, .read 4 0x020, .read 4 0x04C, .read 4 0x400, .read 4 0xBFC],
      a.offset < 0x1000 ∧ ¬ (a.size ≠ 4 ∨ a.offset % 4 ≠ 0 ∨ a.offset = 0x01C ∨ a.offset = 0x02C ∨
        (0x050 ≤ a.offset ∧ a.offset ≤ 0x3FC) ∨ 0xC00 ≤ a.offset) := by decide +kernel

/-- WrittenRegisterReadsBack, ReadOnlyRegistersIgnoreWrites. -/
theorem witness_register_writes : ((Reg.rc4KeyLen, 0x000001FF#32) ∈ [(Reg.addrIn, 0xFFFFFFFF#32), (.valIn, 0xFFFFFFFF#32),
      (.rc4KeyLen, 0x000001FF#32), (.rc4Data, 0x000000FF#32), (.mxBaseLo, 0xFFFFFFFF#32), (.mxBaseHi, 0xFFFFFFFF#32),
      (.mxExpLo, 0xFFFFFFFF#32), (.mxExpHi, 0xFFFFFFFF#32), (.mxModLo, 0xFFFFFFFF#32), (.mxModHi, 0xFFFFFFFF#32)] ∨
      ∃ k, Reg.rc4KeyLen = .rc4Key k ∧ 0x000001FF#32 = 0x000000FF#32) ∧
    (∃ k, Reg.rc4Key 255#8 = .rc4Key k ∧ 0x000000FF#32 = 0x000000FF#32) ∧
    Reg.mxResHi ∈ [Reg.addrOut, .valOut, .autoState, .rc4Cur, .mxResLo, .mxResHi] ∧ (∃ k, Reg.rc4S 255#8 = .rc4S k) :=
  ⟨Or.inl (by decide), ⟨_, rfl, rfl⟩, by decide, ⟨_, rfl⟩⟩

/-- SessionIsNeverVisible: both ends of the window. -/
theorem witness_offsets : 0x000 < 0x1000 ∧ 0xFFF < 0x1000 := by decide +kernel

/-- CommandsWriteOnlyTheirRegisters: a command outside, and one inside, each list. -/
theorem witness_writers : Instr.cb1Enc ∉ [Instr.rc4Init, .rc4Byte] ∧ Instr.rc4Init ≠ .rc4Byte ∧ Instr.nop ≠ .modexp ∧
    Instr.mcActivate ∉ [Instr.cb1Enc, .cb1Dec, .mcEnc, .mcDec, .procEncrypt, .procDecrypt, .procAutodecrypt] ∧
    Instr.mcEnc ∉ [Instr.mcActivate, .mcDefault, .procNew, .procNewDefault, .procEncrypt, .procDecrypt,
      .procAutodecrypt] ∧
    Instr.mcDefault ∈ [Instr.mcActivate, .mcDefault] ∧ Instr.procDecrypt ∈ [Instr.procEncrypt, .procDecrypt] := by decide +kernel

/-- ResetEventRestoresTheRegisters: a reset that loses a command. -/
theorem witness_reset_event : (faulted.withPending [.reset (some (.write 4 0x000 0x34#32))]).pending =
    .reset (some (.write 4 0x000 0x34#32)) :: [] := rfl

/-- EveryStepKeepsTheInvariant: a state with the invariant whose step runs a command. -/
theorem witness_invariant : (State.reset.withFetchWord 32 0x34).Inv ∧
    ∃ t, step (State.reset.withFetchWord 32 0x34) = .next t := by
  refine ⟨⟨⟨fun _ => ⟨rfl, rfl⟩, fun _ => rfl, Or.inl rfl⟩, Config.hardware.lawful.1, isPermutation_identityTable,
    rfl⟩, _, rfl⟩

/-- IdleStepsWaitAndOutsideAccessesFault: the first offset outside. -/
theorem witness_idle_and_outside : State.reset.pending = [] ∧
    (State.reset.withPending [.access (.read 4 0x1000)]).pending = .access (.read 4 0x1000) :: [] ∧
    0x1000 ≤ (Access.read 4 0x1000).offset := ⟨rfl, rfl, by decide⟩

/-- RunsInTheWindowNeverStop: a legal command, an illegal one, a bus error, a reset. -/
theorem witness_window_events : ∀ e ∈ (State.reset.withPending [commandWrite 0x34#32, commandWrite 0xFFFFFFFF#32,
    .access (.read 1 0xFFF), .reset none]).pending, HostEventInWindow e := by
  simp only [State.withPending, List.mem_cons, List.not_mem_nil, or_false, forall_eq_or_imp, forall_eq]
  exact ⟨rfl, rfl, rfl, trivial⟩

/-- InstancesAreIsolated: two adjacent windows, the last offset of the second. -/
theorem witness_platform :
    (∃ pl', (Platform.reset 2 (by decide)).access (fun k => 0x40000000 + 0x1000 * k) (.read 4 0x40001FFC) = .next pl') ∧
    1 < 2 ∧
    (0x40000000 + 0x1000 * 1 ≤ (Access.read 4 0x40001FFC).offset ∧
      (Access.read 4 0x40001FFC).offset < 0x40000000 + 0x1000 * 1 + 0x1000) ∧
    ∀ m, m < 2 → m ≠ 1 →
      0x40000000 + 0x1000 * m + 0x1000 ≤ 0x40000000 + 0x1000 * 1 ∨
        0x40000000 + 0x1000 * 1 + 0x1000 ≤ 0x40000000 + 0x1000 * m := by
  refine ⟨⟨_, rfl⟩, by decide, by decide, fun m _ h1 => by omega⟩

end Sys2Proof.Tests
end

/-! # The state: its invariant, its reset values, and the words that show it

The rules about the model's operations come first: what each keeps of the invariant (R26, R28, R33, R34), what STATUS
decides of a command (R38), and the view words as numbers (R24, R25, R51). The theorems that settle the obligations
stand at the end. -/

namespace Sys2Proof.Machine

/-! ## The automaton's half of the invariant -/

/-- The automaton's half of `State.Inv`: a legal combination (R26) and a paired session (R33). -/
def Automaton.Sound (a : Automaton) : Prop :=
  a.Legal ∧ a.sess.Paired

theorem State.inv_iff (s : State) : s.Inv ↔ s.st.Sound ∧ IsPermutation s.rc4.S ∧ s.RomIntact :=
  and_assoc.symm

/-- R26: scheme Table allows both values of st.plain and of st.wr. -/
theorem Automaton.legal_table (b : Bool) (w : BitVec 2) (e : Session) (hw : w = 0#2 ∨ w = 1#2) :
    Automaton.Legal ⟨.table, b, w, e⟩ :=
  ⟨nofun, nofun, hw⟩

/-- R26: scheme Modular has st.plain 0. -/
theorem Automaton.legal_modular (w : BitVec 2) (e : Session) (hw : w = 0#2 ∨ w = 1#2) :
    Automaton.Legal ⟨.modular, false, w, e⟩ :=
  ⟨nofun, fun _ => rfl, hw⟩

/-- R26: a code that has no words left is legal in every scheme. -/
theorem Automaton.Legal.withWr_zero {st : Automaton} (h : st.Legal) : Automaton.Legal { st with wr := 0#2 } :=
  ⟨fun hs => ⟨rfl, (h.1 hs).2⟩, h.2.1, .inl rfl⟩

/-- R26: a running code has exactly one word left, so the next word is its last. -/
theorem Automaton.Legal.wr_sub_one {st : Automaton} (h : st.Legal) (hw : st.wr ≠ 0#2) : st.wr - 1#2 = 0#2 := by
  obtain ⟨-, -, h0 | h1⟩ := h
  · exact absurd h0 hw
  · rw [h1]; rfl

section Clauses
variable {k : Config.Constants} {p : Config.Params} {rom : Rom} {pr : Pair} {st : Automaton}

/-- R33: an activation derives a paired session; R26: it leaves st.wr, so the combination stays legal. -/
theorem activate_sound (hp : p.Lawful) (h : st.Sound) : (activate p pr st).Sound :=
  ⟨Automaton.legal_modular _ _ h.1.2.2, hp.2 _ _ _⟩

/-- The activations of clauses A and F (R176, R181) are sound whatever the automaton was before. -/
theorem activate_withWr_one_sound (hp : p.Lawful) : Automaton.Sound { activate p pr st with wr := 1#2 } :=
  ⟨Automaton.legal_modular _ _ (.inr rfl), hp.2 _ _ _⟩

theorem clauseA_sound (hp : p.Lawful) : (clauseA p pr st).st.Sound :=
  activate_withWr_one_sound hp

theorem clauseB_sound (h : st.Sound) : (clauseB k rom pr st).st.Sound :=
  ⟨Automaton.legal_table _ _ _ (wordsLeft_eq k _), h.2⟩

theorem clauseC_sound (h : st.Sound) : (clauseC k pr st).st.Sound :=
  ⟨Automaton.legal_table _ _ _ (wordsLeft_eq k _), h.2⟩

theorem clauseD_sound (h : st.Sound) (hw : st.wr ≠ 0#2) : (clauseD rom pr st).st.Sound := by
  refine ⟨?_, h.2⟩
  simp only [clauseD, h.1.wr_sub_one hw]
  exact h.1.withWr_zero

/-- Clause E sets st.wr to 0 or 1 (R180). -/
theorem clauseE_wr (h : st.Legal) : (clauseE k p pr st).st.wr = 0#2 ∨ (clauseE k p pr st).st.wr = 1#2 := by
  unfold clauseE
  dsimp only
  split_ifs with hw
  · exact .inl rfl
  · exact wordsLeft_eq k _
  · exact .inl (h.wr_sub_one (by simpa using hw))

theorem clauseE_sound (h : st.Sound) (hm : st.scheme = .modular) : (clauseE k p pr st).st.Sound := by
  obtain ⟨hscheme, hplain, hsess⟩ := clauseE_keeps k p pr st
  refine ⟨⟨fun hs => ?_, fun _ => hplain.trans (h.1.2.1 hm), clauseE_wr h.1⟩, hsess ▸ h.2⟩
  rw [hscheme, hm] at hs
  exact nomatch hs

theorem clauseF_sound (hp : p.Lawful) {r : PairResult} (h : r.st.Sound) : (clauseF k p r).st.Sound := by
  rcases clauseF_cases k p r with ⟨-, hF⟩ | ⟨-, hF⟩ <;> rw [hF]
  · exact activate_withWr_one_sound hp
  · exact h

/-- R26 and R33 through one step of the automaton (R175): each clause keeps them. -/
theorem autoDecrypt_sound (hp : p.Lawful) (h : st.Sound) : (autoDecrypt k p rom pr st).st.Sound := by
  rcases autoDecrypt_cases k p rom pr st with
    ⟨hm, e⟩ | ⟨-, -, -, -, e⟩ | ⟨-, -, -, -, e⟩ | ⟨-, -, -, e⟩ | ⟨-, hw, e⟩ <;> rw [e]
  · exact clauseF_sound hp (clauseE_sound h hm)
  · exact clauseA_sound hp
  · exact clauseF_sound hp (clauseB_sound h)
  · exact clauseF_sound hp (clauseC_sound h)
  · exact clauseF_sound hp (clauseD_sound h hw)

theorem schemeEncrypt_sound (hp : p.Lawful) (h : st.Sound) : (schemeEncrypt k p rom pr st).st.Sound := by
  rw [schemeEncrypt_st]
  split
  · exact activate_sound hp h
  · exact h

theorem schemeDecrypt_sound (hp : p.Lawful) (h : st.Sound) : (schemeDecrypt k p rom pr st).st.Sound := by
  rw [schemeDecrypt_st]
  split
  · exact activate_sound hp h
  · exact h

/-- R185: the automaton of PROC_NEW, which is also the one after reset (R36). -/
theorem newProcessor_sound (hp : p.Lawful) : Automaton.Sound ⟨.none, false, 0#2, p.initialSession⟩ :=
  ⟨⟨fun _ => ⟨rfl, rfl⟩, nofun, .inl rfl⟩, hp.1⟩

/-- R186: the automaton of PROC_NEW_DEFAULT. -/
theorem newDefaultProcessor_sound (hp : p.Lawful) : Automaton.Sound ⟨.modular, false, 0#2, p.defaultSession⟩ :=
  ⟨Automaton.legal_modular _ _ (.inl rfl), hp.2 _ _ _⟩

end Clauses

/-! ## What each state operation does to the invariant -/

@[simp] theorem State.complete_inv (s : State) (f : CommandFlags) : (s.complete f).Inv ↔ s.Inv := Iff.rfl
@[simp] theorem State.raiseError_inv (s : State) (e : ErrorCode) : (s.raiseError e).Inv ↔ s.Inv := Iff.rfl
@[simp] theorem State.putPair_inv (s : State) (pr : Pair) : (s.putPair pr).Inv ↔ s.Inv := Iff.rfl
@[simp] theorem State.putData_inv (s : State) (b : Byte) : (s.putData b).Inv ↔ s.Inv := Iff.rfl
@[simp] theorem State.putResult_inv (s : State) (q : Dword) : (s.putResult q).Inv ↔ s.Inv := Iff.rfl
@[simp] theorem State.respond_inv (s : State) (r : Response) : (s.respond r).Inv ↔ s.Inv := Iff.rfl
@[simp] theorem State.withPending_inv (s : State) (es : List HostEvent) : (s.withPending es).Inv ↔ s.Inv := Iff.rfl

section Updates
variable {s : State}

theorem State.Inv.sound (h : s.Inv) : s.st.Sound :=
  (s.inv_iff.mp h).1

theorem State.Inv.permutation (h : s.Inv) : IsPermutation s.rc4.S :=
  (s.inv_iff.mp h).2.1

theorem State.Inv.romIntact (h : s.Inv) : s.RomIntact :=
  (s.inv_iff.mp h).2.2

theorem State.Inv.putAutomaton (h : s.Inv) {a : Automaton} (ha : a.Sound) : (s.putAutomaton a).Inv :=
  (State.inv_iff _).mpr ⟨ha, h.permutation, h.romIntact⟩

theorem State.Inv.putSession (h : s.Inv) {e : Session} (he : e.Paired) : (s.putSession e).Inv :=
  (State.inv_iff _).mpr ⟨⟨h.sound.1, he⟩, h.permutation, h.romIntact⟩

theorem State.Inv.putStream (h : s.Inv) {k : Keystream} (hk : IsPermutation k.S) : (s.putStream k).Inv :=
  (State.inv_iff _).mpr ⟨h.sound, hk, h.romIntact⟩

theorem State.Inv.finishPair (h : s.Inv) {r : PairResult} (hr : r.st.Sound) : (s.finishPair r).Inv :=
  State.Inv.putAutomaton (s := s.putPair r.out) h hr

/-- R230: reset installs a new processor and the identity table, and keeps the tables. -/
theorem State.Inv.hardReset (h : s.Inv) : s.hardReset.Inv :=
  (State.inv_iff _).mpr ⟨newProcessor_sound Config.hardware.lawful, isPermutation_identityTable, h.romIntact⟩

/-- A host write reaches none of the parts the invariant speaks of (R54, R59). -/
theorem State.Inv.writeRegister (h : s.Inv) (r : Reg) (w : Word) : (Machine.writeRegister r w s).Inv := by
  obtain ⟨-, -, hst, hrc4, -, hrom, -, -⟩ := writeRegister_keeps r w s
  rw [State.inv_iff, hst, hrc4, State.RomIntact, hrom]
  exact s.inv_iff.mp h

end Updates

/-! ## The invariant through commands, accesses and steps -/

section Invariant
variable {s t : State}

theorem execRc4Init_inv (hs : s.Inv) (h : execRc4Init s = .next t) : t.Inv := by
  rcases execRc4Init_cases h with ⟨-, rfl⟩ | ⟨-, rfl⟩
  · rw [State.complete_inv]
    exact hs.putStream (keySchedule_permutation _ _)
  · rwa [State.raiseError_inv]

theorem execRc4Byte_inv (hs : s.Inv) (h : execRc4Byte s = .next t) : t.Inv := by
  rcases execRc4Byte_cases h with ⟨-, rfl⟩ | ⟨-, rfl⟩
  · rw [State.complete_inv, State.putData_inv]
    exact hs.putStream (prgaAdvance_permutation hs.permutation)
  · rwa [State.raiseError_inv]

theorem execModexp_inv (hs : s.Inv) (h : execModexp s = .next t) : t.Inv := by
  rcases execModexp_cases h with ⟨-, rfl⟩ | ⟨-, rfl⟩ <;> simpa using hs

/-- Every command keeps the invariant (R26, R28, R33, R34). -/
theorem exec_inv {i : Instr} (hs : s.Inv) (h : exec i s = .next t) : t.Inv := by
  have hp := Config.hardware.lawful
  cases i with
  | rc4Init => exact execRc4Init_inv hs h
  | rc4Byte => exact execRc4Byte_inv hs h
  | modexp => exact execModexp_inv hs h
  | nop => cases h; simpa using hs
  | cb1Enc | cb1Dec => cases h; simpa using hs
  | mcEnc | mcDec => cases h; simpa [mcEncCommand, mcDecCommand] using hs
  | mcActivate | mcDefault => cases h; exact hs.putSession (hp.2 _ _ _)
  | procNew => cases h; exact hs.putAutomaton (newProcessor_sound hp)
  | procNewDefault => cases h; exact hs.putAutomaton (newDefaultProcessor_sound hp)
  | procEncrypt => cases h; exact hs.finishPair (schemeEncrypt_sound hp hs.sound)
  | procDecrypt => cases h; exact hs.finishPair (schemeDecrypt_sound hp hs.sound)
  | procAutodecrypt => cases h; exact hs.finishPair (autoDecrypt_sound hp hs.sound)

theorem runCommand_inv {w : Word} (hs : s.Inv) (h : runCommand w s = .next t) : t.Inv := by
  rcases runCommand_cases h with ⟨i, -, hi⟩ | ⟨e, -, rfl⟩
  · exact exec_inv hs hi
  · rwa [State.raiseError_inv]

theorem performAccess_inv {a : Access} (hs : s.Inv) (h : performAccess a s = .next t) : t.Inv := by
  rcases performAccess_cases h with
    ⟨-, rfl⟩ | ⟨n, o, r, -, -, rfl⟩ | ⟨n, o, w, -, -, hw⟩ | ⟨n, o, w, r, -, -, -, rfl⟩
  · rwa [State.respond_inv]
  · rwa [State.respond_inv]
  · exact runCommand_inv ((s.respond_inv _).mpr hs) hw
  · exact State.Inv.writeRegister ((s.respond_inv _).mpr hs) r w

/-- Every step keeps the invariant: it waits, performs an access, or resets the block. -/
theorem step_inv (hs : s.Inv) (h : step s = .next t) : t.Inv := by
  rcases step_cases h with ⟨-, rfl⟩ | ⟨a, es, -, ha⟩ | ⟨l, es, -, rfl⟩
  · exact hs
  · exact performAccess_inv ((s.withPending_inv es).mpr hs) ha
  · exact State.Inv.hardReset ((s.withPending_inv es).mpr hs)

end Invariant

/-! ## What a command makes of STATUS -/

/-- The same block with another STATUS. -/
def State.withStatus (s : State) (x : Status) : State :=
  { s with status := x }

/-- A pair command of the processor completes with the flags of its pair transform (R22, R24). -/
theorem State.finishPair_completes (s : State) (r : PairResult) : ∃ b f, ∀ x,
    (.next ((s.withStatus x).finishPair r) : Host.Outcome State Fault Refusal) =
      .next ((State.withStatus b x).complete f) :=
  ⟨s.finishPair r, r.flags, fun _ => rfl⟩

/-- What a command can do, whatever STATUS held (R24, R38, R203): it completes, with the other registers `b` and
the flags `f` that the rest of the state decides; or it raises an error that the rest of the state decides. -/
theorem exec_withStatus_cases (i : Instr) (s : State) :
    (∃ b f, ∀ x, exec i (s.withStatus x) = .next ((State.withStatus b x).complete f)) ∨
    (∃ e, e ≠ .ok ∧ ∀ x, exec i (s.withStatus x) = .next ((s.withStatus x).raiseError e)) := by
  cases i with
  | rc4Init =>
    by_cases hk : legalKeyLen s.keyLen = true
    · exact .inl ⟨s.putStream ⟨keySchedule s.key s.keyLen.toNat, 0#8, 0#8, true⟩, _, fun _ => if_pos hk⟩
    · exact .inr ⟨.badKeylen, nofun, fun _ => if_neg hk⟩
  | rc4Byte =>
    by_cases hv : s.rc4.valid = true
    · exact .inl ⟨(s.putStream (prgaAdvance s.rc4)).putData (prgaStep s.rc4 s.rc4Data).2, _, fun _ => if_pos hv⟩
    · exact .inr ⟨.rc4Uninit, nofun, fun _ => if_neg hv⟩
  | modexp =>
    by_cases hm : (s.mxMod == 0#64) = true
    · exact .inr ⟨.modZero, nofun, fun _ => if_pos hm⟩
    · exact .inl ⟨s.putResult (modExp s.mxBase s.mxExp s.mxMod), _, fun _ => if_neg hm⟩
  | nop => exact .inl ⟨s, _, fun _ => rfl⟩
  | cb1Enc => exact .inl ⟨s.putPair (tableEncrypt s.rom s.pairIn), _, fun _ => rfl⟩
  | cb1Dec => exact .inl ⟨s.putPair (tableDecrypt s.rom s.pairIn), _, fun _ => rfl⟩
  | mcEnc => exact .inl ⟨s.putPair (mcEncrypt Config.hardware.params s.st.sess s.pairIn), _, fun _ => rfl⟩
  | mcDec => exact .inl ⟨s.putPair (mcDecrypt Config.hardware.params s.st.sess s.pairIn), _, fun _ => rfl⟩
  | mcActivate =>
    exact .inl ⟨s.putSession (Config.hardware.params.derive s.st.sess s.addrIn s.valIn), _, fun _ => rfl⟩
  | mcDefault => exact .inl ⟨s.putSession Config.hardware.params.defaultSession, _, fun _ => rfl⟩
  | procNew =>
    exact .inl ⟨s.putAutomaton ⟨.none, false, 0#2, Config.hardware.params.initialSession⟩, _, fun _ => rfl⟩
  | procNewDefault =>
    exact .inl ⟨s.putAutomaton ⟨.modular, false, 0#2, Config.hardware.params.defaultSession⟩, _, fun _ => rfl⟩
  | procEncrypt =>
    exact .inl (s.finishPair_completes
      (schemeEncrypt Config.givenConstants Config.hardware.params s.rom s.pairIn s.st))
  | procDecrypt =>
    exact .inl (s.finishPair_completes
      (schemeDecrypt Config.givenConstants Config.hardware.params s.rom s.pairIn s.st))
  | procAutodecrypt =>
    exact .inl (s.finishPair_completes
      (autoDecrypt Config.givenConstants Config.hardware.params s.rom s.pairIn s.st))

/-! ## The view words as numbers -/

/-- A concatenation as a number, for any two widths (`append_toNat` is the one of two words): the high part counts in
units of the low part's range. -/
theorem toNat_append_eq_add {m n : Nat} (a : BitVec m) (b : BitVec n) :
    (a ++ b).toNat = a.toNat * 2 ^ n + b.toNat := by
  rw [BitVec.toNat_append, ← Nat.shiftLeft_eq, ← Nat.shiftLeft_add_eq_or_of_lt b.isLt]

@[simp] theorem bit_toNat (b : Bool) : (bit b).toNat = b.toNat :=
  BitVec.toNat_ofBool b

/-- R24: STATUS as a number. -/
theorem Status.word_toNat (st : Status) : st.word.toNat =
    st.err.code.toNat + 2 ^ 4 * st.flags.act.toNat + 2 ^ 5 * st.flags.cons.toNat + 2 ^ 6 * st.flags.unsup.toNat +
      2 ^ 31 * st.fault.toNat := by
  simp only [Status.word, toNat_append_eq_add, bit_toNat, BitVec.toNat_zero]
  omega

/-- R25: AUTO_STATE as a number. -/
theorem Automaton.word_toNat (st : Automaton) :
    st.word.toNat = st.scheme.code.toNat + 2 ^ 2 * st.plain.toNat + 2 ^ 4 * st.wr.toNat := by
  simp only [Automaton.word, toNat_append_eq_add, bit_toNat, BitVec.toNat_zero]
  omega

/-- R51: RC4_CUR as a number. -/
theorem Keystream.cursorWord_toNat (k : Keystream) :
    k.cursorWord.toNat = k.i.toNat + 2 ^ 8 * k.j.toNat + 2 ^ 16 * k.valid.toNat := by
  simp only [Keystream.cursorWord, toNat_append_eq_add, bit_toNat, BitVec.toNat_zero]
  omega

/-! ## The obligations -/

/-- Settles O57: `step_inv`, one case for each thing a step can do. -/
theorem everyStepKeepsTheInvariant : Obligations.EveryStepKeepsTheInvariant :=
  fun _ _ hs h => step_inv hs h

/-- Settles O39: each command completes or fails by `exec_withStatus_cases`, with an outcome that STATUS does not decide;
completing keeps FAULT and failing sets it. -/
theorem statusIsNeverRead : Obligations.StatusIsNeverRead := by
  intro i s x
  rcases exec_withStatus_cases i s with ⟨b, f, h⟩ | ⟨e, he, h⟩
  · exact ⟨_, _, h s.status, h x, rfl, rfl, rfl, (Bool.or_false _).symm, (Bool.or_false _).symm⟩
  · have hne : (e != ErrorCode.ok) = true := bne_iff_ne.mpr he
    refine ⟨_, _, h s.status, h x, rfl, rfl, rfl, ?_, ?_⟩ <;> simp [hne]

/-- Settles O40: the word as a number, and the code of each error. -/
theorem statusWordHoldsItsFields : Obligations.StatusWordHoldsItsFields := by
  intro s
  rw [show readRegister .status s = s.status.word from rfl, Status.word_toNat]
  cases s.status.err <;> rfl

/-- Settles O41: AUTO_STATE and RC4_CUR as numbers, the halves of MX_RES, and a byte widened with zeros. -/
theorem viewWordsHoldTheirFields : Obligations.ViewWordsHoldTheirFields := by
  intro s
  refine ⟨?_, s.rc4.cursorWord_toNat, rfl, rfl, loWord_toNat _, hiWord_toNat _, fun k => ?_⟩
  · rw [show readRegister .autoState s = s.st.word from rfl, Automaton.word_toNat]
    cases s.st.scheme <;> rfl
  · exact BitVec.toNat_setWidth_of_le (by decide)

/-- Settles O53: the two byte tables by their entries, every other value as R36 lists it. -/
theorem resetValuesAreAsListed : Obligations.ResetValuesAreAsListed := by
  have hkey : ∀ k : Byte, entry State.reset.key k = 0x00#8 := fun k => by simp [entry]
  exact ⟨rfl, rfl, rfl, rfl, rfl, rfl, rfl, rfl, rfl, entry_identityTable, rfl, rfl, rfl, hkey, rfl, rfl, rfl, rfl,
    rfl, rfl, rfl⟩

/-- Settles O56: reset leaves a new processor, the identity table and the constant tables. -/
theorem resetMeetsTheInvariant : Obligations.ResetMeetsTheInvariant :=
  State.reset.inv_iff.mpr ⟨newProcessor_sound Config.hardware.lawful, isPermutation_identityTable, rfl⟩

end Sys2Proof.Machine

/-! # The register window

The register map (R51), one rule for each kind of access to a mapped register (R52 to R54, R58), and what a write to one
register leaves of the others (R54, R56, R59). The theorems that settle the obligations stand at the end. -/

namespace Sys2Proof.Machine

/-! ## The register map -/

theorem regOffset_rc4Key (k : Byte) : regOffset (.rc4Key k) = 0x400 + 4 * k.toNat := rfl

theorem regOffset_rc4S (k : Byte) : regOffset (.rc4S k) = 0x800 + 4 * k.toNat := rfl

/-- R51: from 0x050 on, the map holds the two byte tables and nothing else. -/
theorem regAt_of_le {off : Nat} (h : 0x050 ≤ off) :
    regAt off =
      if off % 4 = 0 then
        if 0x400 ≤ off ∧ off < 0x800 then some (.rc4Key (BitVec.ofNat 8 ((off - 0x400) / 4)))
        else if 0x800 ≤ off ∧ off < 0xC00 then some (.rc4S (BitVec.ofNat 8 ((off - 0x800) / 4)))
        else none
      else none := by
  unfold regAt
  split
  case h_19 => simp only [beq_iff_eq, Bool.and_eq_true, decide_eq_true_iff]
  all_goals omega

theorem regAt_rc4Key (k : Byte) : regAt (0x400 + 4 * k.toNat) = some (.rc4Key k) := by
  have hk := k.isLt
  rw [regAt_of_le (by omega), if_pos (by omega), if_pos (by omega)]
  simp

theorem regAt_rc4S (k : Byte) : regAt (0x800 + 4 * k.toNat) = some (.rc4S k) := by
  have hk := k.isLt
  rw [regAt_of_le (by omega), if_pos (by omega), if_neg (by omega), if_pos (by omega)]
  simp

/-- The bus finds every register at the offset the assembler gives it. -/
@[simp] theorem regAt_regOffset (r : Reg) : regAt (regOffset r) = some r := by
  cases r with
  | rc4Key k => exact regAt_rc4Key k
  | rc4S k => exact regAt_rc4S k
  | _ => rfl

/-- The bus finds a register at no other offset than its own. -/
theorem eq_regOffset_of_regAt {off : Nat} {r : Reg} (h : regAt off = some r) : off = regOffset r := by
  by_cases hlow : off < 0x050
  · have named : ∀ o < 0x050, ∀ q ∈ regAt o, o = regOffset q := by decide
    exact named off hlow r h
  · rw [regAt_of_le (Nat.le_of_not_lt hlow)] at h
    split_ifs at h
    · cases h
      rw [regOffset_rc4Key, BitVec.toNat_ofNat]
      omega
    · cases h
      rw [regOffset_rc4S, BitVec.toNat_ofNat]
      omega

/-- R51: a register is found at its own offset, and none at any other. -/
theorem regAt_eq_some_iff {off : Nat} {r : Reg} : regAt off = some r ↔ off = regOffset r :=
  ⟨eq_regOffset_of_regAt, fun h => h ▸ regAt_regOffset r⟩

/-- R51's unmapped offsets, as R53 rejects them. -/
theorem regAt_eq_none_iff {off : Nat} :
    regAt off = none ↔
      off % 4 ≠ 0 ∨ off = 0x01C ∨ off = 0x02C ∨ (0x050 ≤ off ∧ off ≤ 0x3FC) ∨ 0xC00 ≤ off := by
  by_cases hlow : off < 0x050
  · have named : ∀ o < 0x050, (regAt o = none ↔ o % 4 ≠ 0 ∨ o = 0x01C ∨ o = 0x02C) := by decide
    rw [named off hlow]
    omega
  · rw [regAt_of_le (Nat.le_of_not_lt hlow)]
    split_ifs <;> simp <;> omega

/-- R51: every register lies in the window. -/
theorem regOffset_lt_windowSize (r : Reg) : regOffset r < windowSize := by
  cases r with
  | rc4Key k => exact show 0x400 + 4 * k.toNat < 0x1000 by have := k.isLt; omega
  | rc4S k => exact show 0x800 + 4 * k.toNat < 0x1000 by have := k.isLt; omega
  | _ => decide

/-! ## One rule for each kind of access -/

/-- R53: what the map of R51 does not take is answered with a bus error. -/
theorem performAccess_of_no_target {a : Access} (ha : a.offset < windowSize) (ht : accessTarget a = none) (s : State) :
    performAccess a s = .next (s.respond .busError) := by
  unfold performAccess
  rw [if_neg (Nat.not_le.mpr ha), ht]

/-- R58: a read of a register answers its word. -/
theorem performAccess_read (r : Reg) (s : State) :
    performAccess (.read 4 (regOffset r)) s = .next (s.respond (.data (readRegister r s))) := by
  have hin : ¬ windowSize ≤ Access.offset (.read 4 (regOffset r)) := Nat.not_le.mpr (regOffset_lt_windowSize r)
  have hto : accessTarget (.read 4 (regOffset r)) = some r := regAt_regOffset r
  unfold performAccess
  rw [if_neg hin, hto]

/-- R54: a write to any register but CMD stores what `writeRegister` says. -/
theorem performAccess_write (r : Reg) (hr : r ≠ .cmd) (w : Word) (s : State) :
    performAccess (.write 4 (regOffset r) w) s = .next (writeRegister r w (s.respond .done)) := by
  have hin : ¬ windowSize ≤ Access.offset (.write 4 (regOffset r) w) := Nat.not_le.mpr (regOffset_lt_windowSize r)
  have hto : accessTarget (.write 4 (regOffset r) w) = some r := regAt_regOffset r
  unfold performAccess
  rw [if_neg hin, hto]
  exact if_neg (by simpa using hr)

/-- R80: a write to CMD hands its word to the decoder. -/
theorem performAccess_write_cmd (w : Word) (s : State) :
    performAccess (.write 4 0x000 w) s = runCommand w (s.respond .done) := rfl

theorem step_of_pending {s : State} {e : HostEvent} {es : List HostEvent} (h : s.pending = e :: es) :
    step s = performEvent e (s.withPending es) := by
  unfold step
  rw [h]

theorem runCommand_of_decode {w : Word} {i : Instr} (h : decode w = .ok i) (s : State) : runCommand w s = exec i s := by
  unfold runCommand
  rw [h]

/-- R53: an access is rejected by its size or by the map. -/
theorem accessTarget_eq_none_iff {a : Access} :
    accessTarget a = none ↔
      a.size ≠ 4 ∨ a.offset % 4 ≠ 0 ∨ a.offset = 0x01C ∨ a.offset = 0x02C ∨
        (0x050 ≤ a.offset ∧ a.offset ≤ 0x3FC) ∨ 0xC00 ≤ a.offset := by
  unfold accessTarget
  by_cases h4 : a.size = 4
  · simp [h4, regAt_eq_none_iff]
  · simp [h4]

/-- No command touches what the bus answered: that is the write to CMD's, not the command's (R238). -/
theorem exec_response {i : Instr} {s t : State} (h : exec i s = .next t) : t.response = s.response := by
  cases i with
  | rc4Init => rcases execRc4Init_cases h with ⟨-, rfl⟩ | ⟨-, rfl⟩ <;> simp
  | rc4Byte => rcases execRc4Byte_cases h with ⟨-, rfl⟩ | ⟨-, rfl⟩ <;> simp
  | modexp => rcases execModexp_cases h with ⟨-, rfl⟩ | ⟨-, rfl⟩ <;> simp
  | _ => cases h; rfl

theorem runCommand_response {w : Word} {s t : State} (h : runCommand w s = .next t) : t.response = s.response := by
  rcases runCommand_cases h with ⟨i, -, hi⟩ | ⟨e, -, rfl⟩
  · exact exec_response hi
  · rfl

/-- R53: an access that reaches a register is answered with its word or with the completed write. -/
theorem performAccess_response_ne_busError {a : Access} {s t : State} (ht : accessTarget a ≠ none)
    (h : performAccess a s = .next t) : t.response ≠ .busError := by
  rcases performAccess_cases h with
    ⟨hn, -⟩ | ⟨n, o, r, -, -, rfl⟩ | ⟨n, o, w, -, -, hw⟩ | ⟨n, o, w, r, -, -, -, rfl⟩
  · exact absurd hn ht
  · exact nofun
  · rw [runCommand_response hw]
    exact nofun
  · obtain ⟨-, -, -, -, -, -, -, hresp⟩ := writeRegister_keeps r w (s.respond .done)
    rw [hresp]
    exact nofun

/-! ## What a write to a register leaves of the registers -/

@[simp] theorem readRegister_respond (r : Reg) (s : State) (a : Response) :
    readRegister r (s.respond a) = readRegister r s := by
  cases r <;> rfl

/-- The live bits of a RW register (R51); none for a register that stores no word of the host's. -/
def liveBits : Reg → Option Word
  | .addrIn | .valIn | .mxBaseLo | .mxBaseHi | .mxExpLo | .mxExpHi | .mxModLo | .mxModHi => some 0xFFFFFFFF#32
  | .rc4KeyLen => some 0x000001FF#32
  | .rc4Data | .rc4Key _ => some 0x000000FF#32
  | .cmd | .status | .addrOut | .valOut | .autoState | .rc4Cur | .mxResLo | .mxResHi | .rc4S _ => none

/-- A register of `n` live bits keeps the low `n` bits of the word and reads back zeros above them (R54). -/
theorem setWidth_setWidth_eq_and (w : Word) (n : Nat) :
    (w.setWidth n).setWidth 32 = w &&& BitVec.ofNat 32 (2 ^ n - 1) := by
  apply BitVec.eq_of_getLsbD_eq
  intro i hi
  simp only [BitVec.getLsbD_setWidth, BitVec.getLsbD_and, BitVec.getLsbD_ofNat, Nat.testBit_two_pow_sub_one, hi,
    decide_true, Bool.true_and, Bool.and_comm]

/-- R58: a RW register reads back the live bits of the word written. -/
theorem readRegister_writeRegister_self {r : Reg} {live : Word} (h : liveBits r = some live) (w : Word) (s : State) :
    readRegister r (writeRegister r w s) = w &&& live := by
  cases r with
  | addrIn | valIn => cases h; exact BitVec.and_allOnes.symm
  | rc4KeyLen => cases h; exact setWidth_setWidth_eq_and w 9
  | rc4Data => cases h; exact setWidth_setWidth_eq_and w 8
  | rc4Key k =>
    cases h
    calc (entry (setEntry s.key k (w.setWidth 8)) k).setWidth 32 = (w.setWidth 8).setWidth 32 := by
          rw [entry_setEntry_self]
      _ = w &&& 0x000000FF#32 := setWidth_setWidth_eq_and w 8
  | mxBaseLo => cases h; exact (loWord_setLoWord s.mxBase w).trans BitVec.and_allOnes.symm
  | mxExpLo => cases h; exact (loWord_setLoWord s.mxExp w).trans BitVec.and_allOnes.symm
  | mxModLo => cases h; exact (loWord_setLoWord s.mxMod w).trans BitVec.and_allOnes.symm
  | mxBaseHi => cases h; exact (hiWord_setHiWord s.mxBase w).trans BitVec.and_allOnes.symm
  | mxExpHi => cases h; exact (hiWord_setHiWord s.mxExp w).trans BitVec.and_allOnes.symm
  | mxModHi => cases h; exact (hiWord_setHiWord s.mxMod w).trans BitVec.and_allOnes.symm
  | cmd | status | addrOut | valOut | autoState | rc4Cur | mxResLo | mxResHi | rc4S _ => cases h

/-- R54, R56: a write to one register is seen in no other; a 64-bit operand's halves are two registers. -/
theorem readRegister_writeRegister_of_ne {q r : Reg} (h : q ≠ r) (w : Word) (s : State) :
    readRegister q (writeRegister r w s) = readRegister q s := by
  cases r with
  | status => cases q with
    | status => exact absurd rfl h
    | _ => rfl
  | addrIn => cases q with
    | addrIn => exact absurd rfl h
    | _ => rfl
  | valIn => cases q with
    | valIn => exact absurd rfl h
    | _ => rfl
  | rc4KeyLen => cases q with
    | rc4KeyLen => exact absurd rfl h
    | _ => rfl
  | rc4Data => cases q with
    | rc4Data => exact absurd rfl h
    | _ => rfl
  | rc4Key k => cases q with
    | rc4Key j =>
      have hj : j ≠ k := fun e => h (congrArg Reg.rc4Key e)
      exact congrArg (·.setWidth 32) ((entry_setEntry s.key k _ j).trans (if_neg hj))
    | _ => rfl
  | mxBaseLo => cases q with
    | mxBaseLo => exact absurd rfl h
    | mxBaseHi => exact hiWord_setLoWord _ _
    | _ => rfl
  | mxBaseHi => cases q with
    | mxBaseHi => exact absurd rfl h
    | mxBaseLo => exact loWord_setHiWord _ _
    | _ => rfl
  | mxExpLo => cases q with
    | mxExpLo => exact absurd rfl h
    | mxExpHi => exact hiWord_setLoWord _ _
    | _ => rfl
  | mxExpHi => cases q with
    | mxExpHi => exact absurd rfl h
    | mxExpLo => exact loWord_setHiWord _ _
    | _ => rfl
  | mxModLo => cases q with
    | mxModLo => exact absurd rfl h
    | mxModHi => exact hiWord_setLoWord _ _
    | _ => rfl
  | mxModHi => cases q with
    | mxModHi => exact absurd rfl h
    | mxModLo => exact loWord_setHiWord _ _
    | _ => rfl
  | cmd | addrOut | valOut | autoState | rc4Cur | mxResLo | mxResHi | rc4S _ => rfl

theorem writeRegister_status_of_live {r : Reg} {live : Word} (h : liveBits r = some live) (w : Word) (s : State) :
    (writeRegister r w s).status = s.status := by
  cases r with
  | status => cases h
  | _ => rfl

theorem ne_cmd_of_live {r : Reg} {live : Word} (h : liveBits r = some live) : r ≠ .cmd := by
  rintro rfl
  cases h

/-- R54: the whole effect of a write to STATUS. -/
theorem Status.hostWrite_eq (st : Status) (w : Word) :
    st.hostWrite w = { st with fault := !w.getLsbD 31 && st.fault } := by
  unfold Status.hostWrite
  split <;> simp_all

/-! ## The halves of a 64-bit operand -/

/-- A 64-bit operand or result, by the name LD64 gives it (R88). -/
def State.operand (s : State) : Operand64 → Dword
  | .mxBase => s.mxBase
  | .mxExp => s.mxExp
  | .mxMod => s.mxMod
  | .mxRes => s.mxRes

/-- The block with a 64-bit operand set; MX_RES is the engine's to write, not the host's (R54). -/
def State.putOperand (s : State) (x : Operand64) (q : Dword) : State :=
  match x with
  | .mxBase => { s with mxBase := q }
  | .mxExp => { s with mxExp := q }
  | .mxMod => { s with mxMod := q }
  | .mxRes => s

theorem writeRegister_lo_hi (x : Operand64) (w w' : Word) (s : State) (a : Response) :
    writeRegister (operandHi x) w' ((writeRegister (operandLo x) w s).respond a) =
      (s.respond a).putOperand x (setHiWord (setLoWord (s.operand x) w) w') := by
  cases x <;> rfl

theorem writeRegister_hi_lo (x : Operand64) (w w' : Word) (s : State) (a : Response) :
    writeRegister (operandLo x) w' ((writeRegister (operandHi x) w s).respond a) =
      (s.respond a).putOperand x (setLoWord (setHiWord (s.operand x) w) w') := by
  cases x <;> rfl

theorem setHiWord_setLoWord (x q : Dword) : setHiWord (setLoWord x (loWord q)) (hiWord q) = q :=
  (congrArg (hiWord q ++ ·) (loWord_setLoWord x (loWord q))).trans (hiWord_append_loWord q)

theorem setLoWord_setHiWord (x q : Dword) : setLoWord (setHiWord x (hiWord q)) (loWord q) = q :=
  (congrArg (· ++ loWord q) (hiWord_setHiWord x (hiWord q))).trans (hiWord_append_loWord q)

theorem operandLo_ne_cmd (x : Operand64) : operandLo x ≠ .cmd := by
  cases x <;> exact nofun

theorem operandHi_ne_cmd (x : Operand64) : operandHi x ≠ .cmd := by
  cases x <;> exact nofun

/-- R60: two register writes, one after the other. -/
theorem performAll_write_write (r r' : Reg) (h : r ≠ .cmd) (h' : r' ≠ .cmd) (w w' : Word) (s : State) :
    performAll [.write 4 (regOffset r) w, .write 4 (regOffset r') w'] s =
      .next (writeRegister r' w' ((writeRegister r w (s.respond .done)).respond .done)) := by
  simp only [performAll, performAccess_write r h, performAccess_write r' h']

/-- R56: the LO word, then the HI word, make the operand. This is LD64 (R88). -/
theorem performAll_lo_hi (x : Operand64) (q : Dword) (s : State) :
    performAll [.write 4 (regOffset (operandLo x)) (loWord q), .write 4 (regOffset (operandHi x)) (hiWord q)] s =
      .next ((s.respond .done).putOperand x q) := by
  rw [performAll_write_write _ _ (operandLo_ne_cmd x) (operandHi_ne_cmd x), writeRegister_lo_hi, setHiWord_setLoWord]
  rfl

/-- R56: the HI word, then the LO word, make it too. -/
theorem performAll_hi_lo (x : Operand64) (q : Dword) (s : State) :
    performAll [.write 4 (regOffset (operandHi x)) (hiWord q), .write 4 (regOffset (operandLo x)) (loWord q)] s =
      .next ((s.respond .done).putOperand x q) := by
  rw [performAll_write_write _ _ (operandHi_ne_cmd x) (operandLo_ne_cmd x), writeRegister_hi_lo, setLoWord_setHiWord]
  rfl

/-! ## The obligations -/

/-- Settles O42: `regAt_eq_some_iff`, and the rows of R51 as the offsets of the registers. -/
theorem registerMapIsExact : Obligations.RegisterMapIsExact := by
  intro off r
  refine ⟨?_, regAt_eq_some_iff⟩
  rw [regAt_eq_some_iff]
  cases r <;> simp [regOffset]

/-- Settles O43: R53's causes are the accesses that reach no register, by `accessTarget_eq_none_iff`. -/
theorem rejectedAccessChangesNothing : Obligations.RejectedAccessChangesNothing := by
  intro a s ha
  rw [← accessTarget_eq_none_iff]
  refine ⟨fun hn => performAccess_of_no_target ha hn s, fun ht => ?_⟩
  obtain ⟨t, h⟩ := performAccess_total ha s
  exact ⟨t, h, performAccess_response_ne_busError ht h⟩

/-- Settles O45: the register written by `readRegister_writeRegister_self`, every other by
`readRegister_writeRegister_of_ne`. -/
theorem writtenRegisterReadsBack : Obligations.WrittenRegisterReadsBack := by
  intro r live w s hr
  have hlive : liveBits r = some live := by
    rcases hr with hr | ⟨k, rfl, rfl⟩
    · simp only [List.mem_cons, Prod.mk.injEq, List.not_mem_nil, or_false] at hr
      rcases hr with ⟨rfl, rfl⟩ | ⟨rfl, rfl⟩ | ⟨rfl, rfl⟩ | ⟨rfl, rfl⟩ | ⟨rfl, rfl⟩ | ⟨rfl, rfl⟩ | ⟨rfl, rfl⟩ |
        ⟨rfl, rfl⟩ | ⟨rfl, rfl⟩ | ⟨rfl, rfl⟩ <;> rfl
    · rfl
  obtain ⟨-, -, hst, hrc4, -, hrom, hpending, -⟩ := writeRegister_keeps r w (s.respond .done)
  refine ⟨_, performAccess_write r (ne_cmd_of_live hlive) w s, readRegister_writeRegister_self hlive w _,
    fun q hq => ?_, writeRegister_status_of_live hlive w _, hst, hrc4, hrom, hpending⟩
  rw [readRegister_writeRegister_of_ne hq, readRegister_respond]

/-- Settles O46: `writeRegister` stores nothing in a RO register, and STATUS takes `Status.hostWrite_eq`. -/
theorem readOnlyRegistersIgnoreWrites : Obligations.ReadOnlyRegistersIgnoreWrites := by
  intro w s
  constructor
  · intro r hr
    simp only [List.mem_cons, List.not_mem_nil, or_false] at hr
    rcases hr with (rfl | rfl | rfl | rfl | rfl | rfl) | ⟨k, rfl⟩ <;> exact performAccess_write _ (by exact nofun) w s
  · rw [performAccess_write .status nofun, ← Status.hostWrite_eq]
    rfl

/-- Settles O48: `performAll_lo_hi` and `performAll_hi_lo`, for each operand and for LD64. -/
theorem operandHalvesMakeTheOperand : Obligations.OperandHalvesMakeTheOperand :=
  fun q s =>
    ⟨⟨performAll_lo_hi .mxBase q s, performAll_hi_lo .mxBase q s⟩,
      ⟨performAll_lo_hi .mxExp q s, performAll_hi_lo .mxExp q s⟩,
      ⟨performAll_lo_hi .mxMod q s, performAll_hi_lo .mxMod q s⟩,
      performAll_lo_hi .mxBase q s, performAll_lo_hi .mxExp q s, performAll_lo_hi .mxMod q s,
      performAll_lo_hi .mxRes q s⟩

/-- Settles O3: the write to CMD hands its word to the decoder, which answers `i`. -/
theorem stepRunsTheDecodedCommand : Obligations.StepRunsTheDecodedCommand := by
  intro s es w i hp hd _
  calc step s = performEvent (commandWrite w) (s.withPending es) := step_of_pending hp
    _ = runCommand w ((s.withPending es).respond .done) := performAccess_write_cmd w _
    _ = exec i { s with pending := es, response := .done } := runCommand_of_decode hd _

/-- Settles O44: `performAccess_read`; CMD reads as 0 (R54). -/
theorem readsHaveNoSideEffect : Obligations.ReadsHaveNoSideEffect :=
  fun r s => ⟨performAccess_read r s, rfl⟩

/-- Settles O47: a key write is `setEntry` on the key, a KEYLEN write replaces KEYLEN. -/
theorem keyWritesLeaveTheStream : Obligations.KeyWritesLeaveTheStream :=
  fun w s =>
    ⟨fun k => ⟨_, performAccess_write (.rc4Key k) nofun w s, entry_setEntry s.key k (w.setWidth 8), rfl⟩,
      performAccess_write .rc4KeyLen nofun w s⟩

end Sys2Proof.Machine

/-! # Command words and the frames between the units

The decoder as the inverse of the encoder (R82 to R84), what each command can make of the block (R86), and the lines
that load a pair and run a command (R88). The theorems that settle the obligations stand at the end. -/

namespace Sys2Proof

/-! ## The decoder -/

/-- The per-instruction laws of the encoding, for every command (R80 to R82). -/
theorem encoded (i : Instr) : Laws.Encoded.Statement i :=
  match i with
  | .nop => Laws.Encoded.nop
  | .rc4Init => Laws.Encoded.rc4Init
  | .rc4Byte => Laws.Encoded.rc4Byte
  | .cb1Enc => Laws.Encoded.cb1Enc
  | .cb1Dec => Laws.Encoded.cb1Dec
  | .modexp => Laws.Encoded.modexp
  | .mcEnc => Laws.Encoded.mcEnc
  | .mcDec => Laws.Encoded.mcDec
  | .mcActivate => Laws.Encoded.mcActivate
  | .mcDefault => Laws.Encoded.mcDefault
  | .procNew => Laws.Encoded.procNew
  | .procNewDefault => Laws.Encoded.procNewDefault
  | .procEncrypt => Laws.Encoded.procEncrypt
  | .procDecrypt => Laws.Encoded.procDecrypt
  | .procAutodecrypt => Laws.Encoded.procAutodecrypt

theorem reservedClear_iff {w : Word} : reservedClear w = true ↔ w.extractLsb' 8 24 = 0#24 :=
  beq_iff_eq

/-- R80: a word whose RSV is clear is its OPC. -/
theorem eq_append_opcField {w : Word} (h : reservedClear w = true) : w = 0#24 ++ opcField w := by
  have hrsv : (w.extractLsb' 8 24).toNat = 0 := congrArg BitVec.toNat (reservedClear_iff.mp h)
  apply BitVec.eq_of_toNat_eq
  simp only [opcField, Machine.toNat_append_eq_add, BitVec.extractLsb'_toNat, Nat.shiftRight_eq_div_pow,
    BitVec.toNat_zero] at hrsv ⊢
  omega

/-- The match of R84 inverts the opcode column of R82. -/
theorem decodeOpcode_eq_some_iff {opc : Byte} {i : Instr} : decodeOpcode opc = some i ↔ opc = opcodeOf i := by
  constructor
  · intro h
    unfold decodeOpcode at h
    split at h <;> cases h <;> rfl
  · rintro rfl
    obtain ⟨-, -, -, hread⟩ := encoded i
    exact hread

/-- R83: the opcodes outside the match are the unassigned ones. -/
theorem decodeOpcode_eq_none_iff {opc : Byte} : decodeOpcode opc = none ↔ Machine.UnassignedOpcode opc := by
  unfold decodeOpcode
  split
  case h_16 =>
    simp only [true_iff, imp_false, ← BitVec.toNat_inj, BitVec.toNat_ofNat] at *
    unfold Machine.UnassignedOpcode
    omega
  all_goals simp

/-- R84: a word is a command if RSV is clear and OPC is in the map. -/
theorem decode_eq_ok_iff_fields {w : Word} {i : Instr} :
    decode w = .ok i ↔ reservedClear w = true ∧ decodeOpcode (opcField w) = some i := by
  unfold decode
  by_cases hrsv : reservedClear w = true
  · rw [if_pos hrsv]
    cases decodeOpcode (opcField w) <;> simp [hrsv]
  · rw [if_neg hrsv]
    simp [hrsv]

theorem decode_encode (i : Instr) : decode (encode i) = .ok i := by
  obtain ⟨-, hrsv, hopc, hread⟩ := encoded i
  exact decode_eq_ok_iff_fields.mpr ⟨hrsv, hopc ▸ hread⟩

/-- R82, R84: the decoder reads a command from its own word and from no other. -/
theorem decode_eq_ok_iff {w : Word} {i : Instr} : decode w = .ok i ↔ w = encode i := by
  constructor
  · intro h
    obtain ⟨hrsv, hread⟩ := decode_eq_ok_iff_fields.mp h
    calc w = 0#24 ++ opcField w := eq_append_opcField hrsv
      _ = encode i := congrArg (0#24 ++ ·) (decodeOpcode_eq_some_iff.mp hread)
  · rintro rfl
    exact decode_encode i

/-- R83: the illegal words. -/
theorem decode_eq_error_iff {w : Word} :
    (∃ e, decode w = .error e) ↔
      w.extractLsb' 8 24 ≠ 0#24 ∨ Machine.UnassignedOpcode (w.extractLsb' 0 8) := by
  have hok : (∃ e, decode w = .error e) ↔ ¬ ∃ i, decode w = .ok i := by cases decode w <;> simp
  simp only [hok, decode_eq_ok_iff_fields, exists_and_left, ← Option.ne_none_iff_exists', not_and_or, not_not,
    decodeOpcode_eq_none_iff, reservedClear_iff, ne_eq, opcField]

end Sys2Proof

namespace Sys2Proof.Machine

/-! ## What a command can make of the block

Twelve of the fifteen commands act on the output pair, the automaton and STATUS alone, so that a `PairResult` says
all they do; the other three are the commands that can fail (R203). -/

/-- The output pair as it stands (R22). -/
def State.pairOut (s : State) : Pair where
  addr := s.addrOut
  val := s.valOut

/-- What a command makes of the old output pair `old`, of the automaton and of the flags, from the operand pair `pr` and
the tables (R86). The keystream and exponentiation commands leave the pair and the automaton, as NOP does. -/
def commandResult (i : Instr) (rom : Rom) (pr old : Pair) (st : Automaton) : PairResult :=
  match i with
  | .nop | .rc4Init | .rc4Byte | .modexp => ⟨old, st, ⟨false, false, false⟩⟩
  | .cb1Enc => ⟨tableEncrypt rom pr, st, ⟨false, false, false⟩⟩
  | .cb1Dec => ⟨tableDecrypt rom pr, st, ⟨false, false, false⟩⟩
  | .mcEnc => ⟨mcEncrypt Config.hardware.params st.sess pr, st, ⟨false, false, false⟩⟩
  | .mcDec => ⟨mcDecrypt Config.hardware.params st.sess pr, st, ⟨false, false, false⟩⟩
  | .mcActivate =>
    ⟨old, { st with sess := Config.hardware.params.derive st.sess pr.addr pr.val }, ⟨true, false, false⟩⟩
  | .mcDefault => ⟨old, { st with sess := Config.hardware.params.defaultSession }, ⟨false, false, false⟩⟩
  | .procNew => ⟨old, ⟨.none, false, 0#2, Config.hardware.params.initialSession⟩, ⟨false, false, false⟩⟩
  | .procNewDefault => ⟨old, ⟨.modular, false, 0#2, Config.hardware.params.defaultSession⟩, ⟨false, false, false⟩⟩
  | .procEncrypt => schemeEncrypt Config.givenConstants Config.hardware.params rom pr st
  | .procDecrypt => schemeDecrypt Config.givenConstants Config.hardware.params rom pr st
  | .procAutodecrypt => autoDecrypt Config.givenConstants Config.hardware.params rom pr st

/-- The commands outside the two units finish with their pair result, whatever those units hold (R86). -/
theorem exec_eq_finishPair {i : Instr} (h : i ∉ [Instr.rc4Init, .rc4Byte, .modexp]) (s : State) :
    exec i s = .next (s.finishPair (commandResult i s.rom s.pairIn s.pairOut s.st)) := by
  cases i with
  | rc4Init | rc4Byte | modexp => simp at h
  | _ => rfl

/-- What a command can do (R86): the three that use a unit fail, or change what the unit owns; every other finishes with
its pair result. -/
theorem exec_cases {i : Instr} {s t : State} (h : exec i s = .next t) :
    (i ∉ [Instr.rc4Init, .rc4Byte, .modexp] ∧
      t = s.finishPair (commandResult i s.rom s.pairIn s.pairOut s.st)) ∨
    (i ∈ [Instr.rc4Init, .rc4Byte, .modexp] ∧ ∃ e, e ≠ .illegalCmd ∧ t = s.raiseError e) ∨
    (i = .rc4Init ∧ ∃ k, t = (s.putStream k).complete ⟨false, false, false⟩) ∨
    (i = .rc4Byte ∧ ∃ b, t = ((s.putStream (prgaAdvance s.rc4)).putData b).complete ⟨false, false, false⟩) ∨
    (i = .modexp ∧ ∃ q, t = (s.putResult q).complete ⟨false, false, false⟩) := by
  cases i with
  | rc4Init =>
    rcases execRc4Init_cases h with ⟨-, ht⟩ | ⟨-, ht⟩
    · exact .inr (.inr (.inl ⟨rfl, _, ht⟩))
    · exact .inr (.inl ⟨by simp, .badKeylen, nofun, ht⟩)
  | rc4Byte =>
    rcases execRc4Byte_cases h with ⟨-, ht⟩ | ⟨-, ht⟩
    · exact .inr (.inr (.inr (.inl ⟨rfl, _, ht⟩)))
    · exact .inr (.inl ⟨by simp, .rc4Uninit, nofun, ht⟩)
  | modexp =>
    rcases execModexp_cases h with ⟨-, ht⟩ | ⟨-, ht⟩
    · exact .inr (.inr (.inr (.inr ⟨rfl, _, ht⟩)))
    · exact .inr (.inl ⟨by simp, .modZero, nofun, ht⟩)
  | _ => cases h; exact .inl ⟨by simp, rfl⟩

/-- R201: ILLEGAL_CMD is raised by no command. -/
theorem exec_err_ne_illegalCmd {i : Instr} {s t : State} (h : exec i s = .next t) : t.status.err ≠ .illegalCmd := by
  rcases exec_cases h with ⟨-, rfl⟩ | ⟨-, e, he, rfl⟩ | ⟨-, k, rfl⟩ | ⟨-, b, rfl⟩ | ⟨-, q, rfl⟩
  case inr.inl => exact he
  all_goals exact nofun

section CommandResult
variable {i : Instr} (rom : Rom) (pr old : Pair) (st : Automaton)

/-- R22: the commands that produce no pair leave the old one. -/
theorem commandResult_out
    (h : i ∉ [Instr.cb1Enc, .cb1Dec, .mcEnc, .mcDec, .procEncrypt, .procDecrypt, .procAutodecrypt]) :
    (commandResult i rom pr old st).out = old := by
  cases i with
  | cb1Enc | cb1Dec | mcEnc | mcDec | procEncrypt | procDecrypt | procAutodecrypt => simp at h
  | _ => rfl

theorem commandResult_st
    (h : i ∉ [Instr.mcActivate, .mcDefault, .procNew, .procNewDefault, .procEncrypt, .procDecrypt, .procAutodecrypt]) :
    (commandResult i rom pr old st).st = st := by
  cases i with
  | mcActivate | mcDefault | procNew | procNewDefault | procEncrypt | procDecrypt | procAutodecrypt => simp at h
  | _ => rfl

/-- R155, R156: the session commands change st.sess alone. -/
theorem commandResult_st_of_session (h : i ∈ [Instr.mcActivate, .mcDefault]) :
    (commandResult i rom pr old st).st = { st with sess := (commandResult i rom pr old st).st.sess } := by
  cases i with
  | mcActivate | mcDefault => rfl
  | _ => simp at h

/-- R187, R188: an activation by PROC_ENCRYPT or PROC_DECRYPT leaves st.wr. -/
theorem commandResult_wr (h : i ∈ [Instr.procEncrypt, .procDecrypt]) :
    (commandResult i rom pr old st).st.wr = st.wr := by
  cases i with
  | procEncrypt =>
    rw [commandResult, schemeEncrypt_st]
    split <;> rfl
  | procDecrypt =>
    rw [commandResult, schemeDecrypt_st]
    split <;> rfl
  | _ => simp at h

/-- R22, R86: a command that produces a pair does not read the old one. -/
theorem commandResult_old_irrelevant (old' : Pair)
    (h : i ∈ [Instr.cb1Enc, .cb1Dec, .mcEnc, .mcDec, .procEncrypt, .procDecrypt, .procAutodecrypt]) :
    commandResult i rom pr old st = commandResult i rom pr old' st := by
  cases i with
  | cb1Enc | cb1Dec | mcEnc | mcDec | procEncrypt | procDecrypt | procAutodecrypt => rfl
  | _ => simp at h

end CommandResult

/-! ## A pair line -/

/-- R80, R88: the line of a command runs it. -/
theorem performAll_commandLine (i : Instr) (s : State) :
    performAll [commandLine i] s = exec i (s.respond .done) := by
  have hrun : performAccess (commandLine i) s = exec i (s.respond .done) :=
    runCommand_of_decode (decode_encode i) (s.respond .done)
  obtain ⟨t, ht⟩ := exec_total i (s.respond .done)
  simp only [performAll, hrun, ht]

/-- R88: a pair line loads the pair and runs its command. -/
theorem performAll_loadPair_commandLine (i : Instr) (a v : Word) (s : State) :
    performAll (loadPair a v ++ [commandLine i]) s = exec i { s with addrIn := a, valIn := v, response := .done } :=
  performAll_commandLine i { s with addrIn := a, valIn := v, response := .done }

/-! ## The obligations -/

/-- Settles O1: `decode_eq_ok_iff`, and the rows of R82 as the words of the commands. -/
theorem decodeReadsExactlyTheCommandWords : Obligations.DecodeReadsExactlyTheCommandWords := by
  intro w i
  refine ⟨?_, decode_eq_ok_iff⟩
  rw [decode_eq_ok_iff]
  cases i <;> simp [encode, opcodeOf]

/-- Settles O2: the words the decoder rejects by `decode_eq_error_iff`; a command raises no ILLEGAL_CMD. -/
theorem illegalWordsRaiseIllegalCmd : Obligations.IllegalWordsRaiseIllegalCmd := by
  refine ⟨rfl, fun w s => ?_⟩
  have hrun : performEvent (commandWrite w) s = runCommand w (s.respond .done) := performAccess_write_cmd w s
  rw [← decode_eq_error_iff, hrun]
  cases hd : decode w with
  | error e =>
    refine ⟨fun _ => ?_, fun h => absurd ⟨e, rfl⟩ h⟩
    rw [runCommand, hd]
    rfl
  | ok i =>
    refine ⟨fun ⟨_, h⟩ => (nomatch h), fun _ => ?_⟩
    obtain ⟨t, ht⟩ := exec_total i (s.respond .done)
    exact ⟨i, t, rfl, (runCommand_of_decode hd _).trans ht, exec_err_ne_illegalCmd ht⟩

/-- Settles O51: for each thing a command can do (`exec_cases`), the frame of its updates; of the output pair and the
automaton, what `commandResult` leaves. -/
theorem commandsWriteOnlyTheirRegisters : Obligations.CommandsWriteOnlyTheirRegisters := by
  intro i s
  obtain ⟨t, h⟩ := exec_total i s
  refine ⟨t, h, ?_⟩
  rcases exec_cases h with ⟨-, rfl⟩ | ⟨-, e, -, rfl⟩ | ⟨rfl, k, rfl⟩ | ⟨rfl, b, rfl⟩ | ⟨rfl, q, rfl⟩
  · have hout := commandResult_out (i := i) s.rom s.pairIn s.pairOut s.st
    exact ⟨⟨rfl, rfl, rfl, rfl, rfl, rfl, rfl, rfl, rfl, rfl⟩, fun _ => rfl, fun _ => rfl, fun _ => rfl, fun _ => rfl,
      fun hi => ⟨congrArg Pair.addr (hout hi), congrArg Pair.val (hout hi)⟩, commandResult_st _ _ _ _,
      commandResult_st_of_session _ _ _ _, commandResult_wr _ _ _ _⟩
  all_goals simp

/-- Settles O52: both blocks finish with the same pair result. -/
theorem pairCommandsIgnoreTheOtherUnits : Obligations.PairCommandsIgnoreTheOtherUnits := by
  intro i s u hi haddr hval hrom hst hold
  have hunit : i ∉ [Instr.rc4Init, .rc4Byte, .modexp] := by
    intro hu
    cases i <;> simp at hi hu
  have hpair : s.pairIn = u.pairIn := congrArg₂ Pair.mk haddr hval
  have hresult : commandResult i s.rom s.pairIn s.pairOut s.st = commandResult i u.rom u.pairIn u.pairOut u.st := by
    rw [hrom, hpair, hst]
    by_cases hk : i ∈ [Instr.mcActivate, .mcDefault, .procNew, .procNewDefault]
    · obtain ⟨haddrOut, hvalOut⟩ := hold hk
      rw [show s.pairOut = u.pairOut from congrArg₂ Pair.mk haddrOut hvalOut]
    · refine commandResult_old_irrelevant _ _ _ _ _ ?_
      cases i <;> simp at hi hk ⊢
  refine ⟨_, _, exec_eq_finishPair hunit s, exec_eq_finishPair hunit u, ?_⟩
  rw [hresult]
  exact ⟨rfl, rfl, rfl, rfl, rfl⟩

/-- Settles O4: each word is its command's encoding. -/
theorem sampleCommandWordsDecode : Obligations.SampleCommandWordsDecode :=
  ⟨decode_encode .nop, decode_encode .rc4Byte, decode_encode .cb1Dec, decode_encode .modexp,
    decode_encode .mcActivate, decode_encode .procAutodecrypt⟩

/-- Settles O49: `performAll_loadPair_commandLine`, for each pair line. -/
theorem pairLinesLoadAndRun : Obligations.PairLinesLoadAndRun :=
  fun a v s =>
    ⟨performAll_loadPair_commandLine .cb1Enc a v s, performAll_loadPair_commandLine .cb1Dec a v s,
      performAll_loadPair_commandLine .procAutodecrypt a v s, performAll_loadPair_commandLine .procEncrypt a v s,
      performAll_loadPair_commandLine .procDecrypt a v s⟩

end Sys2Proof.Machine

/-! # The stream cipher

RC4_INIT and RC4_BYTE each as one equation (R103, R104), and a run of RC4_BYTE over a buffer as the XOR with the
keystream of the stream it starts from (R102). The theorems that settle the obligations stand at the end. -/

namespace Sys2Proof.Machine

/-- A keystream command that completes, field by field (R24, R103, R104). -/
theorem State.complete_putStream (s : State) (q : Keystream) (f : CommandFlags) :
    (s.putStream q).complete f =
      { s with rc4 := ⟨q.S, q.i, q.j, q.valid⟩, status := ⟨.ok, f, s.status.fault⟩ } := rfl

/-! ## RC4_INIT -/

/-- R29: the key lengths RC4_INIT accepts. -/
theorem legalKeyLen_iff (n : BitVec 9) : legalKeyLen n = true ↔ 1 ≤ n.toNat ∧ n.toNat ≤ 256 := by
  rw [legalKeyLen, Bool.and_eq_true, decide_eq_true_iff, decide_eq_true_iff]

/-- The stream that RC4_INIT starts from the key as it stands (R103). -/
def State.keyedStream (s : State) : Keystream :=
  ⟨keySchedule s.key s.keyLen.toNat, 0#8, 0#8, true⟩

theorem exec_rc4Init_of_legal {s : State} (h1 : 1 ≤ s.keyLen.toNat) (h256 : s.keyLen.toNat ≤ 256) :
    exec .rc4Init s = .next ((s.putStream s.keyedStream).complete ⟨false, false, false⟩) :=
  if_pos ((legalKeyLen_iff _).mpr ⟨h1, h256⟩)

theorem exec_rc4Init_of_illegal {s : State} (h : s.keyLen.toNat = 0 ∨ 257 ≤ s.keyLen.toNat) :
    exec .rc4Init s = .next (s.raiseError .badKeylen) :=
  if_neg fun hk => by
    have := (legalKeyLen_iff _).mp hk
    omega

/-- The stream that RC4_INIT starts is a function of the key's cyclic extension to 256 bytes (R103). -/
theorem keyedStream_congr {s u : State}
    (h : ∀ n, n < 256 → entry s.key (BitVec.ofNat 8 (n % s.keyLen.toNat)) =
      entry u.key (BitVec.ofNat 8 (n % u.keyLen.toNat))) : s.keyedStream = u.keyedStream :=
  congrArg (Keystream.mk · 0#8 0#8 true) (keySchedule_congr h)

/-! ## The turns of KSA, entry by entry -/

/-- R101: the cursor after one more turn. -/
theorem ksaTurns_succ_cursor (key : Vector Byte 256) (len n : Nat) :
    (ksaTurns key len (n + 1)).2 =
      (ksaTurns key len n).2 + entry (ksaTurns key len n).1 (BitVec.ofNat 8 n) +
        entry key (BitVec.ofNat 8 (n % len)) := rfl

/-- R101: the table after one more turn, its entries `n` and the new cursor swapped. -/
theorem entry_ksaTurns_succ (key : Vector Byte 256) (len n : Nat) (k : Byte) :
    entry (ksaTurns key len (n + 1)).1 k =
      if k = BitVec.ofNat 8 n then entry (ksaTurns key len n).1 (ksaTurns key len (n + 1)).2
      else if k = (ksaTurns key len (n + 1)).2 then entry (ksaTurns key len n).1 (BitVec.ofNat 8 n)
      else entry (ksaTurns key len n).1 k :=
  entry_swapEntries _ _ _ k

/-! ## RC4_BYTE -/

theorem exec_rc4Byte_of_valid {s : State} (h : s.rc4.valid = true) :
    exec .rc4Byte s = .next
      (((s.putStream (prgaAdvance s.rc4)).putData (s.rc4Data ^^^ prgaSelect (prgaAdvance s.rc4))).complete
        ⟨false, false, false⟩) :=
  if_pos h

theorem exec_rc4Byte_of_not_valid {s : State} (h : s.rc4.valid = false) :
    exec .rc4Byte s = .next (s.raiseError .rc4Uninit) :=
  if_neg (Bool.eq_false_iff.mp h)

/-- R102: the table after one PRGA_STEP, the entries that the new cursors name swapped. -/
theorem entry_prgaAdvance (q : Keystream) (k : Byte) :
    entry (prgaAdvance q).S k =
      if k = q.i + 1#8 then entry q.S (q.j + entry q.S (q.i + 1#8))
      else if k = q.j + entry q.S (q.i + 1#8) then entry q.S (q.i + 1#8) else entry q.S k :=
  entry_swapEntries _ _ _ k

/-! ## A buffer through the stream -/

/-- The first `n` keystream bytes of a stream (R102): what PRGA_STEP selects, step after step. -/
def keystreamBytes (q : Keystream) : Nat → List Byte
  | 0 => []
  | n + 1 => prgaSelect (prgaAdvance q) :: keystreamBytes (prgaAdvance q) n

theorem keystreamBytes_succ (q : Keystream) (n : Nat) :
    keystreamBytes q (n + 1) = prgaSelect (prgaAdvance q) :: keystreamBytes (prgaAdvance q) n := rfl

theorem length_keystreamBytes (q : Keystream) (n : Nat) : (keystreamBytes q n).length = n := by
  induction n generalizing q with
  | zero => rfl
  | succ n ih => rw [keystreamBytes_succ, List.length_cons, ih]

theorem streamBytes_cons {b : Byte} {s t : State} (h : exec .rc4Byte (s.putData b) = .next t) (bs : List Byte) :
    streamBytes (b :: bs) s = (streamBytes bs t).map fun r => (r.1, t.rc4Data :: r.2) := by
  rw [streamBytes, h]

/-- R102, R104: a running stream answers a buffer with its XOR with the keystream, takes one PRGA_STEP a byte, and
leaves the key as it is. -/
theorem streamBytes_of_valid (bs : List Byte) {s : State} (h : s.rc4.valid = true) :
    ∃ t, streamBytes bs s = some (t, List.zipWith (· ^^^ ·) bs (keystreamBytes s.rc4 bs.length)) ∧
      t.rc4 = prgaAdvance^[bs.length] s.rc4 ∧ t.key = s.key ∧ t.keyLen = s.keyLen := by
  induction bs generalizing s with
  | nil => exact ⟨s, rfl, rfl, rfl, rfl⟩
  | cons b bs ih =>
    have hb := exec_rc4Byte_of_valid (s := s.putData b) h
    obtain ⟨t, ht, hrc4, hkey, hlen⟩ :=
      ih (s := ((s.putStream (prgaAdvance s.rc4)).putData (b ^^^ prgaSelect (prgaAdvance s.rc4))).complete
        ⟨false, false, false⟩) h
    refine ⟨t, ?_, hrc4, hkey, hlen⟩
    rw [streamBytes_cons hb]
    exact congrArg (Option.map _) ht

/-- R103, R104: the same from RC4_INIT on, whatever stream ran before. -/
theorem streamBytes_of_rc4Init (bs : List Byte) {s : State} (h1 : 1 ≤ s.keyLen.toNat) (h256 : s.keyLen.toNat ≤ 256) :
    ∃ t u, exec .rc4Init s = .next t ∧
      streamBytes bs t = some (u, List.zipWith (· ^^^ ·) bs (keystreamBytes s.keyedStream bs.length)) ∧
      u.key = s.key ∧ u.keyLen = s.keyLen := by
  obtain ⟨u, hu, -, hkey, hlen⟩ :=
    streamBytes_of_valid bs (s := (s.putStream s.keyedStream).complete ⟨false, false, false⟩) rfl
  rw [State.complete_rc4, State.putStream_rc4] at hu
  rw [State.complete_key, State.putStream_key] at hkey
  rw [State.complete_keyLen, State.putStream_keyLen] at hlen
  exact ⟨_, u, exec_rc4Init_of_legal h1 h256, hu, hkey, hlen⟩

/-- XOR with the buffer takes a buffer's XOR with the keystream back to the keystream. -/
theorem zipWith_xor_zipWith_xor {bs ks : List Byte} (h : bs.length = ks.length) :
    List.zipWith (· ^^^ ·) bs (List.zipWith (· ^^^ ·) bs ks) = ks := by
  induction bs generalizing ks with
  | nil => exact (List.eq_nil_of_length_eq_zero h.symm).symm
  | cons b bs ih =>
    cases ks with
    | nil => cases h
    | cons k ks =>
      have hbk : b ^^^ (b ^^^ k) = k := by rw [← BitVec.xor_assoc, BitVec.xor_self, BitVec.zero_xor]
      exact congrArg₂ List.cons hbk (ih (Nat.succ.inj h))

/-- XOR with the keystream twice restores the buffer (R105). -/
theorem zipWith_xor_keystream_twice {bs ks : List Byte} (h : bs.length = ks.length) :
    List.zipWith (· ^^^ ·) (List.zipWith (· ^^^ ·) bs ks) ks = bs := by
  rw [List.zipWith_comm_of_comm BitVec.xor_comm, List.zipWith_comm_of_comm BitVec.xor_comm (l := bs)]
  exact zipWith_xor_zipWith_xor h.symm

/-! ## The obligations -/

/-- Settles O6: the variables of KSA are `ksaTurns`, read entry by entry. -/
theorem rc4InitRunsTheKeySchedule : Obligations.Rc4InitRunsTheKeySchedule := by
  refine fun s => ⟨fun ⟨h1, h256⟩ => ?_, exec_rc4Init_of_illegal⟩
  refine ⟨fun n => entry (ksaTurns s.key s.keyLen.toNat n).1, fun n => (ksaTurns s.key s.keyLen.toNat n).2,
    _, exec_rc4Init_of_legal h1 h256, entry_identityTable, rfl, fun n _ => ?_, fun k => ?_,
    s.complete_putStream _ _⟩
  · exact ⟨ksaTurns_succ_cursor _ _ n, entry_ksaTurns_succ _ _ n⟩
  · exact congrArg (entry · k) (keySchedule_eq s.key s.keyLen.toNat)

/-- Settles O7: `exec_rc4Byte_of_valid`, with the swap entry by entry. -/
theorem rc4ByteAdvancesTheStream : Obligations.Rc4ByteAdvancesTheStream := by
  refine fun s => ⟨fun hv => ?_, exec_rc4Byte_of_not_valid⟩
  refine ⟨_, _, _, exec_rc4Byte_of_valid hv, rfl, rfl, entry_prgaAdvance s.rc4, rfl, ?_⟩
  rw [← hv]
  rfl

/-- Settles O8, by `keyedStream_congr`. -/
theorem cyclicKeyDecidesTheSchedule : Obligations.CyclicKeyDecidesTheSchedule :=
  fun _ _ hs1 hs256 hu1 hu256 hkey =>
    ⟨_, _, exec_rc4Init_of_legal hs1 hs256, exec_rc4Init_of_legal hu1 hu256, keyedStream_congr hkey⟩

/-- Settles O9: the first run keeps the key, so the second starts from the same stream and XORs the same keystream. -/
theorem reinitialisedStreamRestoresTheBytes : Obligations.ReinitialisedStreamRestoresTheBytes := by
  intro s ps h1 h256
  obtain ⟨t, u, hs, hps, hkey, hlen⟩ := streamBytes_of_rc4Init ps h1 h256
  have hstream : u.keyedStream = s.keyedStream := keyedStream_congr fun n _ => by rw [hkey, hlen]
  obtain ⟨v, w, hu, hcs, -⟩ :=
    streamBytes_of_rc4Init (List.zipWith (· ^^^ ·) ps (keystreamBytes s.keyedStream ps.length))
      (hlen.symm ▸ h1) (hlen.symm ▸ h256)
  refine ⟨t, u, v, w, _, hs, hps, hu, hcs.trans ?_⟩
  rw [hstream, List.length_zipWith, length_keystreamBytes, Nat.min_self,
    zipWith_xor_keystream_twice (length_keystreamBytes _ _).symm]

/-- Settles O10: each block answers with the XOR with the one keystream, and that XORed with its data again is the
keystream. -/
theorem keystreamIgnoresTheData : Obligations.KeystreamIgnoresTheData := by
  intro bs cs s u hsu hv hlen
  obtain ⟨t, hbs, ht, -⟩ := streamBytes_of_valid bs hv
  obtain ⟨v, hcs, hv', -⟩ := streamBytes_of_valid cs (hsu ▸ hv)
  refine ⟨t, v, _, _, hbs, hcs, ?_, ?_⟩
  · rw [ht, hv', hsu, hlen]
  · rw [zipWith_xor_zipWith_xor (length_keystreamBytes _ _).symm,
      zipWith_xor_zipWith_xor (length_keystreamBytes _ _).symm, hsu, hlen]

end Sys2Proof.Machine

/-! # The modular cipher

The engine of R141 as a power in exact arithmetic, the guarded stage of R143 as that power below the modulus, and the
two transforms of R146 and R147 as inverses of each other under the pairing law of R33. The theorems that settle the
obligations stand at the end. -/

namespace Sys2Proof.Machine

/-! ## The engine -/

/-- R141: a turn multiplies the result by the running square exactly where the exponent bit `k` is 1. -/
theorem multiplyTurn_modEq {m : Dword} (hm : m ≠ 0#64) (e : Dword) (k : Nat) (r x : Dword) :
    (if e.getLsbD k then mulMod r x m else r).toNat ≡ r.toNat * x.toNat ^ (e.toNat / 2 ^ k % 2) [MOD m.toNat] := by
  have hbit : e.getLsbD k = decide (e.toNat / 2 ^ k % 2 = 1) := Nat.testBit_eq_decide_div_mod_eq
  rcases Nat.mod_two_eq_zero_or_one (e.toNat / 2 ^ k) with h | h
  · simp [hbit, h, Nat.ModEq.refl]
  · simp [hbit, h, mulMod_toNat r x m hm, Nat.mod_modEq]

/-- R141: each turn squares the running power. -/
theorem squareTurn_modEq {m : Dword} (hm : m ≠ 0#64) (x : Dword) :
    (mulMod x x m).toNat ≡ x.toNat ^ 2 [MOD m.toNat] := by
  rw [mulMod_toNat x x m hm, pow_two]
  exact Nat.mod_modEq _ _

/-- The loop's invariant (R141): where `n` turns are left for the exponent bits from `k` on, they multiply `r` by the
power of `x` that those bits give. -/
theorem modExpTurns_modEq {e m : Dword} (hm : m ≠ 0#64) {n k : Nat} (h : e.toNat / 2 ^ k < 2 ^ n) (r x : Dword) :
    (modExpTurns e m n k r x).toNat ≡ r.toNat * x.toNat ^ (e.toNat / 2 ^ k) [MOD m.toNat] := by
  induction n generalizing k r x with
  | zero =>
    rw [Nat.lt_one_iff.mp h, pow_zero, mul_one, modExpTurns_zero]
  | succ n ih =>
    have hhalf : e.toNat / 2 ^ (k + 1) = e.toNat / 2 ^ k / 2 := by rw [pow_succ, Nat.div_div_eq_div_mul]
    have hrest : e.toNat / 2 ^ (k + 1) < 2 ^ n := by omega
    rw [modExpTurns_succ]
    calc _ ≡ _ [MOD m.toNat] := ih hrest _ _
      _ ≡ r.toNat * x.toNat ^ (e.toNat / 2 ^ k % 2) * (x.toNat ^ 2) ^ (e.toNat / 2 ^ (k + 1)) [MOD m.toNat] :=
          (multiplyTurn_modEq hm e k r x).mul ((squareTurn_modEq hm x).pow _)
      _ = r.toNat * x.toNat ^ (e.toNat / 2 ^ k) := by
          rw [mul_assoc, ← pow_mul, ← pow_add, hhalf, Nat.mod_add_div]

theorem modExpTurns_lt {e m : Dword} (hm : m ≠ 0#64) (n k : Nat) {r : Dword} (hr : r < m) (x : Dword) :
    modExpTurns e m n k r x < m := by
  induction n generalizing k r x with
  | zero => exact hr
  | succ n ih =>
    rw [modExpTurns_succ]
    refine ih _ ?_ _
    split
    · exact mulMod_lt r x m hm
    · exact hr

/-- R141: the engine computes the power in exact arithmetic; `0 ^ 0` is 1. -/
theorem modExp_toNat {m : Dword} (hm : m ≠ 0#64) (b e : Dword) :
    (modExp b e m).toNat = b.toNat ^ e.toNat % m.toNat := by
  have hpos : 0#64 < m := (BitVec.pos_iff_ne_zero m).mpr hm
  have hlt : (modExp b e m).toNat < m.toNat := BitVec.lt_def.mp (modExpTurns_lt hm 64 0 (BitVec.umod_lt _ hpos) _)
  have hall : e.toNat / 2 ^ 0 < 2 ^ 64 := by simpa using e.isLt
  have hpow : (modExp b e m).toNat ≡ b.toNat ^ e.toNat [MOD m.toNat] :=
    calc (modExp b e m).toNat
      _ ≡ (1#64 % m).toNat * (b % m).toNat ^ (e.toNat / 2 ^ 0) [MOD m.toNat] := modExpTurns_modEq hm hall _ _
      _ = 1 % m.toNat * (b.toNat % m.toNat) ^ e.toNat := by
          rw [BitVec.toNat_umod, BitVec.toNat_umod, pow_zero, Nat.div_one]; rfl
      _ ≡ 1 * b.toNat ^ e.toNat [MOD m.toNat] := (Nat.mod_modEq _ _).mul ((Nat.mod_modEq _ _).pow _)
      _ = b.toNat ^ e.toNat := one_mul _
  rw [← Nat.mod_eq_of_lt hlt]
  exact hpow

theorem modExp_eq_ofNat {m : Dword} (hm : m ≠ 0#64) (b e : Dword) :
    modExp b e m = BitVec.ofNat 64 (b.toNat ^ e.toNat % m.toNat) := by
  rw [← modExp_toNat hm, BitVec.ofNat_toNat, BitVec.setWidth_eq]

theorem exec_modexp_of_ne_zero {s : State} (h : s.mxMod ≠ 0#64) :
    exec .modexp s = .next ((s.putResult (modExp s.mxBase s.mxExp s.mxMod)).complete ⟨false, false, false⟩) :=
  if_neg (mt beq_iff_eq.mp h)

theorem exec_modexp_of_zero {s : State} (h : s.mxMod = 0#64) : exec .modexp s = .next (s.raiseError .modZero) :=
  if_pos (beq_iff_eq.mpr h)

/-! ## The guarded stage -/

/-- A value below the modulus shows that the modulus is not 0, so the guard lets only defined powers through (R143). -/
theorem modulus_ne_zero {q n : Dword} (h : q < n) : n ≠ 0#64 := by
  rintro rfl
  exact BitVec.not_lt_zero h

/-- R143 in exact arithmetic. -/
theorem guardedExp_eq (q e n : Dword) :
    guardedExp q e n = if q.toNat < n.toNat then BitVec.ofNat 64 (q.toNat ^ e.toNat % n.toNat) else q := by
  by_cases h : q < n
  · rw [guardedExp_of_lt h, modExp_eq_ofNat (modulus_ne_zero h), if_pos (BitVec.lt_def.mp h)]
  · rw [guardedExp_of_le (BitVec.not_lt.mp h), if_neg (mt BitVec.lt_def.mpr h)]

/-- R144: an exponent that undoes another below the modulus does so in the guarded stage for every value, for the power
stays below the modulus and what is not below it passes both times. -/
theorem guardedExp_guardedExp {e d n : Dword}
    (h : ∀ m : Nat, m < n.toNat → (m ^ e.toNat % n.toNat) ^ d.toNat % n.toNat = m) (q : Dword) :
    guardedExp (guardedExp q e n) d n = q := by
  by_cases hlt : q < n
  · have hn : n ≠ 0#64 := modulus_ne_zero hlt
    have hstays : modExp q e n < n := by
      rw [BitVec.lt_def, modExp_toNat hn]
      exact Nat.mod_lt _ (Nat.zero_lt_of_lt hlt)
    apply BitVec.eq_of_toNat_eq
    rw [guardedExp_of_lt hlt, guardedExp_of_lt hstays, modExp_toNat hn, modExp_toNat hn, h _ hlt]
  · have hle : n ≤ q := BitVec.not_lt.mp hlt
    rw [guardedExp_of_le hle, guardedExp_of_le hle]

/-! ## The transforms -/

section Transforms
variable (p : Config.Params) (e : Session) (pr : Pair)

theorem pairInteger_mcEncrypt :
    pairInteger (mcEncrypt p e pr) = p.post e (guardedExp (p.pre e (pairInteger pr)) e.eEnc e.n) :=
  pairInteger_splitInteger _

theorem pairInteger_mcDecrypt :
    pairInteger (mcDecrypt p e pr) = (p.pre e).symm (guardedExp ((p.post e).symm (pairInteger pr)) e.eDec e.n) :=
  pairInteger_splitInteger _

/-- R148: MCDec undoes MCEnc. -/
theorem mcDecrypt_mcEncrypt (h : e.Paired) : mcDecrypt p e (mcEncrypt p e pr) = pr := by
  rw [mcDecrypt, pairInteger_mcEncrypt, Equiv.symm_apply_apply, guardedExp_guardedExp fun m hm => (h m hm).1,
    Equiv.symm_apply_apply, splitInteger_pairInteger]

/-- R148: MCEnc undoes MCDec. -/
theorem mcEncrypt_mcDecrypt (h : e.Paired) : mcEncrypt p e (mcDecrypt p e pr) = pr := by
  rw [mcEncrypt, pairInteger_mcDecrypt, Equiv.apply_symm_apply, guardedExp_guardedExp fun m hm => (h m hm).2,
    Equiv.apply_symm_apply, splitInteger_pairInteger]

/-- MCDec on the pair integer is the exact-arithmetic meaning that R152's hypothesis is about. -/
theorem mcDecrypt_eq_decrypted : mcDecrypt p e pr = splitInteger (p.decrypted e (pairInteger pr)) := by
  rw [mcDecrypt, guardedExp_eq]
  rfl

end Transforms

/-! ## The default session -/

/-- R33: the default session is paired, as every session DERIVE gives. -/
theorem defaultSession_paired : Config.hardware.params.defaultSession.Paired :=
  Config.hardware.lawful.2 _ _ _

/-- The three ciphertexts of R152 with their plaintexts. -/
def defaultVectors : List (Pair × Pair) :=
  [(⟨0xD08F3A49#32, 0x00078A53#32⟩, ⟨0x9029BEAC#32, 0x0C0A9225#32⟩),
    (⟨0x3818DDE5#32, 0xE72B2B16#32⟩, ⟨0x201F6024#32, 0x00000000#32⟩),
    (⟨0x973E0B2A#32, 0xA7D4AF10#32⟩, ⟨0x2096F5B8#32, 0x000000BE#32⟩)]

/-- R152: MCDec under the default session maps each ciphertext to its plaintext. -/
theorem mcDecrypt_defaultSession {c m : Pair} (h : (c, m) ∈ defaultVectors) :
    mcDecrypt Config.hardware.params Config.hardware.params.defaultSession c = m := by
  obtain ⟨hv1, hv2, hv3⟩ := Config.hardware.conforming
  simp only [defaultVectors, List.mem_cons, List.not_mem_nil, or_false, Prod.mk.injEq] at h
  rcases h with ⟨rfl, rfl⟩ | ⟨rfl, rfl⟩ | ⟨rfl, rfl⟩
  · exact (mcDecrypt_eq_decrypted _ _ _).trans (congrArg splitInteger hv1)
  · exact (mcDecrypt_eq_decrypted _ _ _).trans (congrArg splitInteger hv2)
  · exact (mcDecrypt_eq_decrypted _ _ _).trans (congrArg splitInteger hv3)

/-- R152 by R148: MCEnc under the default session maps each plaintext to its ciphertext. -/
theorem mcEncrypt_defaultSession {c m : Pair} (h : (c, m) ∈ defaultVectors) :
    mcEncrypt Config.hardware.params Config.hardware.params.defaultSession m = c := by
  rw [← mcDecrypt_defaultSession h, mcEncrypt_mcDecrypt _ _ _ defaultSession_paired]

/-! ## The obligations -/

/-- Settles O16: the engine's loop invariant, `modExp_eq_ofNat`; modulus 0 raises the error before the engine runs. -/
theorem modexpComputesThePower : Obligations.ModexpComputesThePower := by
  refine ⟨decode_encode .modexp, rfl, fun s => ⟨fun hm => ?_, exec_modexp_of_zero⟩⟩
  rw [exec_modexp_of_ne_zero hm, modExp_eq_ofNat hm]
  rfl

/-- Settles O17, by `guardedExp_eq` between the two stages. -/
theorem mcEncEncryptsUnderTheSession : Obligations.McEncEncryptsUnderTheSession :=
  fun s => ⟨mcEncCommand Config.hardware.params s, _, rfl, rfl,
    (pairInteger_mcEncrypt _ _ s.pairIn).trans (congrArg _ (guardedExp_eq _ _ _)), rfl⟩

/-- Settles O18: POST and PRE take their inverse stages back, with `guardedExp_eq` between them. -/
theorem mcDecDecryptsUnderTheSession : Obligations.McDecDecryptsUnderTheSession := by
  refine fun s => ⟨mcDecCommand Config.hardware.params s,
    (Config.hardware.params.post s.st.sess).symm (pairInteger s.pairIn), rfl, Equiv.apply_symm_apply _ _, ?_, rfl⟩
  rw [← guardedExp_eq, ← Equiv.eq_symm_apply]
  exact pairInteger_mcDecrypt _ _ s.pairIn

/-- Settles O19: `mcDecrypt_mcEncrypt` and `mcEncrypt_mcDecrypt`, for the second command finds the session and the
output pair of the first. -/
theorem modularCommandsUndoEachOther : Obligations.ModularCommandsUndoEachOther := by
  refine ⟨fun p e pr h => ⟨mcDecrypt_mcEncrypt p e pr h, mcEncrypt_mcDecrypt p e pr h⟩, fun s h => ?_⟩
  have hdec := mcDecrypt_mcEncrypt Config.hardware.params s.st.sess s.pairIn h
  have henc := mcEncrypt_mcDecrypt Config.hardware.params s.st.sess s.pairIn h
  exact ⟨⟨_, _, rfl, rfl, congrArg Pair.addr hdec, congrArg Pair.val hdec, rfl⟩,
    ⟨_, _, rfl, rfl, congrArg Pair.addr henc, congrArg Pair.val henc, rfl⟩⟩

/-- Settles O22: MC_DEFAULT leaves the default session, under which the transforms meet the vectors. -/
theorem defaultSessionMeetsItsVectors : Obligations.DefaultSessionMeetsItsVectors := by
  intro s c m h
  have hdec := mcDecrypt_defaultSession h
  have henc := mcEncrypt_defaultSession h
  exact ⟨_, _, _, rfl, rfl, congrArg Pair.addr hdec, congrArg Pair.val hdec, rfl,
    congrArg Pair.addr henc, congrArg Pair.val henc⟩

/-- Settles O20: the meaning of MC_ACTIVATE, field by field. -/
theorem mcActivateRederivesTheSession : Obligations.McActivateRederivesTheSession :=
  ⟨decode_encode .mcActivate, fun _ => rfl⟩

/-- Settles O21: PROC_NEW leaves INITIAL_SESSION, from which MC_ACTIVATE on that pair derives the default session. -/
theorem mcDefaultInstallsTheDefaultSession : Obligations.McDefaultInstallsTheDefaultSession :=
  ⟨decode_encode .mcDefault, fun _ => ⟨_, _, rfl, rfl, rfl⟩⟩

end Sys2Proof.Machine

/-! # Errors, visibility and the platform

What a CMD write makes of ERR and FAULT (R200 to R206), what a read can show of the block (R37, R213), runs in the
window (R200, R208), and the blocks of a platform (R212). The theorems that settle the obligations stand at the end. -/

namespace Sys2Proof.Machine

/-! ## What a CMD write makes of STATUS -/

section CommandStatus
variable {i : Instr} {w : Word} {s t : State}

/-- R29, R103: the key lengths RC4_INIT rejects. -/
theorem legalKeyLen_eq_false_iff (n : BitVec 9) : legalKeyLen n = false ↔ n.toNat = 0 ∨ 256 < n.toNat := by
  rw [← Bool.not_eq_true, legalKeyLen_iff]
  omega

/-- R201 to R203: a command completes and keeps FAULT, or raises its one error, from the cause of that error, and does
nothing else. -/
theorem exec_completes_or_raises (h : exec i s = .next t) :
    (t.status.err = .ok ∧ t.status.fault = s.status.fault) ∨
    (i = .rc4Init ∧ (s.keyLen.toNat = 0 ∨ 256 < s.keyLen.toNat) ∧ t = s.raiseError .badKeylen) ∨
    (i = .rc4Byte ∧ s.rc4.valid = false ∧ t = s.raiseError .rc4Uninit) ∨
    (i = .modexp ∧ s.mxMod = 0#64 ∧ t = s.raiseError .modZero) := by
  by_cases hi : i ∈ [Instr.rc4Init, .rc4Byte, .modexp]
  · obtain rfl | rfl | rfl : i = .rc4Init ∨ i = .rc4Byte ∨ i = .modexp := by simpa using hi
    · rcases execRc4Init_cases h with ⟨-, rfl⟩ | ⟨hk, ht⟩
      · exact .inl ⟨rfl, rfl⟩
      · exact .inr (.inl ⟨rfl, (legalKeyLen_eq_false_iff _).mp hk, ht⟩)
    · rcases execRc4Byte_cases h with ⟨-, rfl⟩ | ⟨hv, ht⟩
      · exact .inl ⟨rfl, rfl⟩
      · exact .inr (.inr (.inl ⟨rfl, hv, ht⟩))
    · rcases execModexp_cases h with ⟨-, rfl⟩ | ⟨hm, ht⟩
      · exact .inl ⟨rfl, rfl⟩
      · exact .inr (.inr (.inr ⟨rfl, hm, ht⟩))
  · cases h.symm.trans (exec_eq_finishPair hi s)
    exact .inl ⟨rfl, rfl⟩

/-- R83, R203: a command word completes and keeps FAULT, or raises an error and does nothing else. -/
theorem runCommand_completes_or_fails (h : runCommand w s = .next t) :
    (t.status.err = .ok ∧ t.status.fault = s.status.fault) ∨ ∃ e, e ≠ .ok ∧ t = s.raiseError e := by
  rcases runCommand_cases h with ⟨i, -, hi⟩ | ⟨_, -, ht⟩
  · rcases exec_completes_or_raises hi with hok | ⟨-, -, ht⟩ | ⟨-, -, ht⟩ | ⟨-, -, ht⟩
    · exact .inl hok
    · exact .inr ⟨.badKeylen, nofun, ht⟩
    · exact .inr ⟨.rc4Uninit, nofun, ht⟩
    · exact .inr ⟨.modZero, nofun, ht⟩
  · exact .inr ⟨.illegalCmd, nofun, ht⟩

/-- R204: FAULT accumulates the errors of the command words. -/
theorem runCommand_fault (h : runCommand w s = .next t) :
    t.status.fault = (s.status.fault || t.status.err != .ok) := by
  rcases runCommand_completes_or_fails h with ⟨herr, hfault⟩ | ⟨e, he, rfl⟩
  · simp [herr, hfault]
  · have hne : (e != ErrorCode.ok) = true := bne_iff_ne.mpr he
    simp [hne]

/-- R60, R80: a CMD write is the run of its word, on the state with the write answered. -/
theorem performEvent_commandWrite (w : Word) (s : State) :
    performEvent (commandWrite w) s = runCommand w (s.respond .done) :=
  performAccess_write_cmd w s

theorem exec_err_eq_badKeylen_iff (h : exec i s = .next t) :
    t.status.err = .badKeylen ↔ i = .rc4Init ∧ (s.keyLen.toNat = 0 ∨ 256 < s.keyLen.toNat) := by
  constructor
  · intro herr
    rcases exec_completes_or_raises h with ⟨hok, -⟩ | ⟨hi, hk, -⟩ | ⟨-, -, rfl⟩ | ⟨-, -, rfl⟩
    · exact nomatch hok.symm.trans herr
    · exact ⟨hi, hk⟩
    · exact nomatch herr
    · exact nomatch herr
  · rintro ⟨rfl, hk⟩
    cases h.symm.trans (exec_rc4Init_of_illegal hk)
    rfl

theorem exec_err_eq_rc4Uninit_iff (h : exec i s = .next t) :
    t.status.err = .rc4Uninit ↔ i = .rc4Byte ∧ s.rc4.valid = false := by
  constructor
  · intro herr
    rcases exec_completes_or_raises h with ⟨hok, -⟩ | ⟨-, -, rfl⟩ | ⟨hi, hv, -⟩ | ⟨-, -, rfl⟩
    · exact nomatch hok.symm.trans herr
    · exact nomatch herr
    · exact ⟨hi, hv⟩
    · exact nomatch herr
  · rintro ⟨rfl, hv⟩
    cases h.symm.trans (exec_rc4Byte_of_not_valid hv)
    rfl

theorem exec_err_eq_modZero_iff (h : exec i s = .next t) :
    t.status.err = .modZero ↔ i = .modexp ∧ s.mxMod = 0#64 := by
  constructor
  · intro herr
    rcases exec_completes_or_raises h with ⟨hok, -⟩ | ⟨-, -, rfl⟩ | ⟨-, -, rfl⟩ | ⟨hi, hm, -⟩
    · exact nomatch hok.symm.trans herr
    · exact nomatch herr
    · exact nomatch herr
    · exact ⟨hi, hm⟩
  · rintro ⟨rfl, hm⟩
    cases h.symm.trans (exec_modexp_of_zero hm)
    rfl

/-- R206: the decoder's check comes first. -/
theorem runCommand_err_eq_illegalCmd_iff (h : runCommand w s = .next t) :
    t.status.err = .illegalCmd ↔ ∀ i, decode w ≠ .ok i := by
  rcases runCommand_cases h with ⟨i, hd, hi⟩ | ⟨e, hd, rfl⟩
  · exact ⟨fun herr => absurd herr (exec_err_ne_illegalCmd hi), fun hno => absurd hd (hno i)⟩
  · simp [hd]

/-- R206: an error that one command `c` alone raises, from the cause `P`, is left by the word of `c` alone. -/
theorem runCommand_err_eq_iff (h : runCommand w s = .next t) {e : ErrorCode} {c : Instr} {P : Prop}
    (he : e ≠ .illegalCmd) (hc : ∀ i, exec i s = .next t → (t.status.err = e ↔ i = c ∧ P)) :
    t.status.err = e ↔ w = encode c ∧ P := by
  rw [← decode_eq_ok_iff]
  rcases runCommand_cases h with ⟨i, hd, hi⟩ | ⟨_, hd, rfl⟩
  · simp [hc i hi, hd]
  · simp [hd, he.symm]

end CommandStatus

/-! ## What an access makes of FAULT -/

/-- R51 to R53: an access reaches a register by its size and the register's own offset. -/
theorem accessTarget_eq_some_iff {a : Access} {r : Reg} :
    accessTarget a = some r ↔ a.size = 4 ∧ a.offset = regOffset r := by
  simp [accessTarget, regAt_eq_some_iff]

theorem writeRegister_status_of_ne {r : Reg} (h : r ≠ .status) (w : Word) (s : State) :
    (writeRegister r w s).status = s.status := by
  cases r with
  | status => exact absurd rfl h
  | _ => rfl

/-- R54, R204: of all accesses only a write to STATUS with bit 31 can clear FAULT. -/
theorem performAccess_fault {a : Access} {s t : State} (h : performAccess a s = .next t)
    (hfault : s.status.fault = true) :
    t.status.fault = true ∨ ∃ w, a = .write 4 0x004 w ∧ w.getLsbD 31 = true := by
  rcases performAccess_cases h with
    ⟨-, rfl⟩ | ⟨n, o, r, -, -, rfl⟩ | ⟨n, o, w, -, -, hw⟩ | ⟨n, o, w, r, rfl, ht, -, rfl⟩
  · exact .inl hfault
  · exact .inl hfault
  · rw [runCommand_fault hw, State.respond_status, hfault]
    exact .inl rfl
  · by_cases hr : r = .status
    · subst hr
      obtain ⟨rfl, rfl⟩ := accessTarget_eq_some_iff.mp ht
      cases hbit : w.getLsbD 31 with
      | true => exact .inr ⟨w, rfl, hbit⟩
      | false =>
        refine .inl ?_
        rw [show (writeRegister .status w (s.respond .done)).status = s.status.hostWrite w from rfl,
          Status.hostWrite_eq, hbit]
        exact hfault
    · rw [writeRegister_status_of_ne hr]
      exact .inl hfault

/-! ## What a read can show -/

/-- R53, R58: the whole of a read in the window, whatever its size and offset. -/
theorem performAccess_read_eq {n off : Nat} (h : off < windowSize) (s : State) :
    performAccess (.read n off) s =
      .next (s.respond ((accessTarget (.read n off)).elim .busError fun r => .data (readRegister r s))) := by
  have hin : ¬ windowSize ≤ Access.offset (.read n off) := Nat.not_le.mpr h
  unfold performAccess
  rw [if_neg hin]
  cases accessTarget (.read n off) <;> rfl

/-- R37, R213: no register shows the session. -/
@[simp] theorem readRegister_putSession (r : Reg) (s : State) (e : Session) :
    readRegister r (s.putSession e) = readRegister r s := by
  cases r <;> rfl

/-! ## Runs in the window -/

section Runs
variable {s t : State}

/-- What the host does next is no command's to change (assumption 1). -/
theorem exec_pending {i : Instr} (h : exec i s = .next t) : t.pending = s.pending := by
  rcases exec_cases h with ⟨-, rfl⟩ | ⟨-, e, -, rfl⟩ | ⟨-, k, rfl⟩ | ⟨-, b, rfl⟩ | ⟨-, q, rfl⟩ <;> rfl

theorem runCommand_pending {w : Word} (h : runCommand w s = .next t) : t.pending = s.pending := by
  rcases runCommand_cases h with ⟨i, -, hi⟩ | ⟨e, -, rfl⟩
  · exact exec_pending hi
  · rfl

theorem performAccess_pending {a : Access} (h : performAccess a s = .next t) : t.pending = s.pending := by
  rcases performAccess_cases h with
    ⟨-, rfl⟩ | ⟨n, o, r, -, -, rfl⟩ | ⟨n, o, w, -, -, hw⟩ | ⟨n, o, w, r, -, -, -, rfl⟩
  · rfl
  · rfl
  · rw [runCommand_pending hw, State.respond_pending]
  · obtain ⟨-, -, -, -, -, -, hpending, -⟩ := writeRegister_keeps r w (s.respond .done)
    exact hpending

/-- R60: a step takes the oldest pending event and leaves the others. -/
theorem step_pending (h : step s = .next t) : t.pending = s.pending.tail := by
  rcases step_cases h with ⟨hp, rfl⟩ | ⟨a, es, hp, ha⟩ | ⟨l, es, hp, rfl⟩
  · simp [hp]
  · rw [performAccess_pending ha, hp]
    rfl
  · rw [hp]
    rfl

/-- R200, R208: a step stops only at an access outside the window. -/
theorem step_total (hs : ∀ e ∈ s.pending, HostEventInWindow e) : ∃ t, step s = .next t := by
  cases hp : s.pending with
  | nil => exact ⟨s, by rw [step, hp]⟩
  | cons e es =>
    rw [step_of_pending hp]
    cases e with
    | access a =>
      have ha : a.inWindow = true := hs (.access a) (by simp [hp])
      exact performAccess_total (of_decide_eq_true ha) _
    | reset l => exact ⟨_, rfl⟩

theorem run_succ_of_step (h : step s = .next t) (k : Nat) :
    Sys2Proof.core.run (k + 1) s = Sys2Proof.core.run k t := by
  have hstep : Sys2Proof.core.step s = .next t := h
  simp only [Host.Core.run, hstep]

end Runs

/-! ## One access to a platform -/

/-- R212: the selected block performs the access at the offset from its base, which lies in its window, so that the
access has its effect; no other block takes part. -/
theorem Platform.access_of_selected {nInst k : Nat} {base : Nat → Nat} {a : Access} (pl : Platform nInst)
    (hsel : selected base a.offset nInst = some k) (hk : k < nInst) :
    ∃ s', performAccess (accessAt a (a.offset - base k)) pl.blocks[k] = .next s' ∧
      pl.access base a = .next { pl with blocks := pl.blocks.set k s' } := by
  obtain ⟨-, hle, hlt⟩ := selected_some hsel
  have hoff : (accessAt a (a.offset - base k)).offset < windowSize := by
    rw [accessAt_offset]
    omega
  obtain ⟨s', hs'⟩ := performAccess_total hoff pl.blocks[k]
  refine ⟨s', hs', ?_⟩
  simp only [Platform.access, hsel, hk, dite_true, hs']

/-- R50, R212: where no other window meets the one that holds the address, its block is selected. -/
theorem selected_of_disjoint {base : Nat → Nat} {addr n k : Nat} (hk : k < n)
    (hin : base k ≤ addr ∧ addr < base k + windowSize)
    (hdis : ∀ m, m < n → m ≠ k → base m + windowSize ≤ base k ∨ base k + windowSize ≤ base m) :
    selected base addr n = some k := by
  obtain ⟨j, hj⟩ := selected_isSome hk hin
  obtain ⟨hjn, hle, hlt⟩ := selected_some hj
  have hjk : j = k := by
    by_contra hne
    have := hdis j hjn hne
    omega
  rw [hj, hjk]

/-! ## The obligations -/

/-- Settles O36: an error other than 0 comes from `State.raiseError`, by `runCommand_completes_or_fails`. -/
theorem failedCommandChangesOnlyStatus : Obligations.FailedCommandChangesOnlyStatus := by
  intro w s
  obtain ⟨t, ht⟩ := runCommand_total w (s.respond .done)
  refine ⟨t, (performEvent_commandWrite w s).trans ht, fun herr => ?_⟩
  rcases runCommand_completes_or_fails ht with ⟨hok, -⟩ | ⟨e, -, rfl⟩
  · exact absurd hok herr
  · rfl

/-- Settles O37: the decoder's error by `runCommand_err_eq_illegalCmd_iff`, each other by the one command that can
raise it. -/
theorem errorCodeNamesItsCause : Obligations.ErrorCodeNamesItsCause := by
  intro w s
  obtain ⟨t, ht⟩ := runCommand_total w (s.respond .done)
  exact ⟨t, (performEvent_commandWrite w s).trans ht, runCommand_err_eq_illegalCmd_iff ht,
    runCommand_err_eq_iff ht (e := .badKeylen) (c := .rc4Init) nofun fun _ => exec_err_eq_badKeylen_iff,
    runCommand_err_eq_iff ht (e := .rc4Uninit) (c := .rc4Byte) nofun fun _ => exec_err_eq_rc4Uninit_iff,
    runCommand_err_eq_iff ht (e := .modZero) (c := .modexp) nofun fun _ => exec_err_eq_modZero_iff⟩

/-- Settles O38: of the things a step can do, an access by `performAccess_fault`; the clearing write by
`Status.hostWrite_eq`; a CMD write by `runCommand_fault`. -/
theorem faultBitIsSticky : Obligations.FaultBitIsSticky := by
  refine ⟨fun s t h hfault => ?_, fun s w hbit => ?_, fun s w => ?_⟩
  · rcases step_cases h with ⟨-, rfl⟩ | ⟨a, es, hp, ha⟩ | ⟨l, es, hp, -⟩
    · exact .inl hfault
    · rcases performAccess_fault ha hfault with hkept | ⟨w, rfl, hbit⟩
      · exact .inl hkept
      · exact .inr (.inr ⟨w, es, hp, hbit⟩)
    · exact .inr (.inl ⟨l, es, hp⟩)
  · have hclear : s.status.hostWrite w = { s.status with fault := false } := if_pos hbit
    calc performAccess (.write 4 (regOffset .status) w) s = .next ((s.respond .done).writeStatus w) :=
          performAccess_write .status nofun w s
      _ = .next { s with status := { s.status with fault := false }, response := .done } := by
          rw [← hclear]; rfl
  · obtain ⟨t, ht⟩ := runCommand_total w (s.respond .done)
    have hfault := runCommand_fault ht
    exact ⟨t, (performEvent_commandWrite w s).trans ht, hfault⟩

/-- Settles O50: a read's answer is a register's word or a bus error, and no word shows the session. -/
theorem sessionIsNeverVisible : Obligations.SessionIsNeverVisible := by
  intro s e n off hoff
  refine ⟨_, _, performAccess_read_eq hoff s, performAccess_read_eq hoff (s.putSession e), ?_⟩
  simp only [State.respond_response, readRegister_putSession]

/-- Settles O59, by induction on the length of the run: the first step is total, and leaves the tail of the pending
list. -/
theorem runsInTheWindowNeverStop : Obligations.RunsInTheWindowNeverStop := by
  intro s hs k
  induction k generalizing s with
  | zero => exact ⟨s, rfl⟩
  | succ k ih =>
    obtain ⟨t, ht⟩ := step_total hs
    rw [run_succ_of_step ht]
    refine ih t fun e he => hs e ?_
    rw [step_pending ht] at he
    exact List.mem_of_mem_tail he

/-- Settles O60: the selected block, by `Platform.access_of_selected`, is the only entry of the vector that is set;
`selected_of_disjoint` says which it is. -/
theorem instancesAreIsolated : Obligations.InstancesAreIsolated := by
  refine fun nInst base a pl => ⟨fun pl' h => ?_, fun k hk hle hlt hdis => ?_⟩
  · cases hsel : selected base a.offset nInst with
    | none => simp [Platform.access, hsel] at h
    | some k =>
      obtain ⟨hk, hle, hlt⟩ := selected_some hsel
      obtain ⟨s', hs', hacc⟩ := pl.access_of_selected hsel hk
      cases h.symm.trans hacc
      exact ⟨k, _, s', hle, hlt, Vector.getElem?_eq_getElem hk, Vector.getElem?_set_self hk, hs',
        fun m hm => Vector.getElem?_set_ne hk (Ne.symm hm)⟩
  · obtain ⟨s', hs', hacc⟩ := pl.access_of_selected (selected_of_disjoint hk ⟨hle, hlt⟩ hdis) hk
    exact ⟨_, _, s', hacc, Vector.getElem?_eq_getElem hk, Vector.getElem?_set_self hk, hs'⟩

/-- Settles O35: none of the twelve is a command that `exec_completes_or_raises` lets fail. -/
theorem cipherCommandsNeverFail : Obligations.CipherCommandsNeverFail := by
  intro i s hi
  obtain ⟨t, h⟩ := exec_total i s
  rcases exec_completes_or_raises h with hok | ⟨rfl, -, -⟩ | ⟨rfl, -, -⟩ | ⟨rfl, -, -⟩
  · exact ⟨t, h, hok⟩
  all_goals exact absurd hi (by decide)

end Sys2Proof.Machine

/-! # Reset and idle steps

What the two kinds of reset leave (R230, R231), and the steps that no register takes part in: the idle one (R232) and
the access outside the window (R50). The theorems that settle the obligations stand at the end. -/

namespace Sys2Proof.Machine

/-- R230: a reset event takes no account of the access it loses. -/
theorem performEvent_reset (l : Option Access) (s : State) : performEvent (.reset l) s = .next s.hardReset := rfl

/-- R214, R232: the block fetches nothing, so that it waits where the host does nothing. -/
theorem step_of_idle {s : State} (h : s.pending = []) : step s = .next s := by
  unfold step
  rw [h]

/-- R50: an offset past the window faults before the register map is asked. -/
theorem performAccess_of_outside {a : Access} (h : windowSize ≤ a.offset) (s : State) :
    performAccess a s = .fault (.outsideWindow a.offset) := by
  unfold performAccess
  exact if_pos h

/-- R185, R231: the automaton PROC_NEW installs is the one reset leaves (R36). -/
theorem exec_procNew (s : State) :
    exec .procNew s = .next ((s.putAutomaton State.reset.st).complete ⟨false, false, false⟩) := rfl

/-! ## The obligations -/

/-- Settles O54: the step is the reset event alone, and `State.hardReset` reads the tables and the host's list of the
state it resets, and nothing else. -/
theorem resetEventRestoresTheRegisters : Obligations.ResetEventRestoresTheRegisters := by
  intro s l es h
  calc step s = performEvent (.reset l) (s.withPending es) := step_of_pending h
    _ = .next (s.withPending es).hardReset := performEvent_reset l _
    _ = .next { State.reset with rom := s.rom, pending := es } := rfl

/-- Settles O55: the frame of the two updates of `exec_procNew`. -/
theorem procNewResetsOnlyTheAutomaton : Obligations.ProcNewResetsOnlyTheAutomaton := by
  intro s
  refine ⟨_, exec_procNew s, ?_⟩
  simp

/-- Settles O58: the two ways a step can find no register to act on, `step_of_idle` and `performAccess_of_outside`. -/
theorem idleStepsWaitAndOutsideAccessesFault : Obligations.IdleStepsWaitAndOutsideAccessesFault := by
  refine ⟨fun s h => step_of_idle h, fun s a es h hout => ?_⟩
  calc step s = performAccess a (s.withPending es) := step_of_pending h
    _ = .fault (.outsideWindow a.offset) := performAccess_of_outside hout _

end Sys2Proof.Machine
